-- ==== Sys2Proof/Word.lean ====
section
/-! DEFINITION. The two word types of the machine (00_scope.md R6): a byte is 8 bits, a word is 16 bits, bit 0 is the
least significant bit. -/

namespace Sys2Proof

/-- A byte, 8 bits (00_scope.md R6). -/
abbrev Byte := BitVec 8

/-- A word, 16 bits: a pair, the program counter, the stack pointer or a memory address (00_scope.md R6, R7). -/
abbrev Word := BitVec 16

end Sys2Proof
end

