-- ==== Sys2Proof/Syntax.lean ====
section
/-! DEFINITION. The instructions as syntax: operand types (10_state.md R21, R22; 30_encoding.md R81) and one constructor
for each mnemonic of spec/opcode_table.json, in the table's order; the table's rows of one mnemonic are the values of its
operands. -/

namespace Sys2Proof

/-- An 8-bit register operand (10_state.md R21); `m` is the byte at address HL. -/
inductive Reg8 where
  | b | c | d | e | h | l | m | a
deriving DecidableEq, Repr

/-- A 16-bit operand of LXI, DAD, INX, DCX (10_state.md R22). -/
inductive Pair where
  | bc | de | hl | sp
deriving DecidableEq, Repr

/-- A 16-bit operand of PUSH and POP (46_stack.md R170 to R173). -/
inductive StackPair where
  | bc | de | hl | psw
deriving DecidableEq, Repr

/-- A pair that addresses memory in LDAX and STAX (48_memmove.md R192, R193). -/
inductive IndPair where
  | bc | de
deriving DecidableEq, Repr

/-- A branch condition (47_branch.md R180). -/
inductive Cond where
  | nz | z | nc | c | po | pe | p | m
deriving DecidableEq, Repr

/-- One instruction with its operands (30_encoding.md R83). -/
inductive Instr where
  /-- NOP (R104). -/
  | nop
  /-- LXI rp,d16 (R196). -/
  | lxi (p : Pair) (v : Word)
  /-- STAX rp (R193). -/
  | stax (p : IndPair)
  /-- INX rp (R142). -/
  | inx (p : Pair)
  /-- INR ddd (R140). -/
  | inr (r : Reg8)
  /-- DCR ddd (R141). -/
  | dcr (r : Reg8)
  /-- MVI ddd,d8 (R111). -/
  | mvi (r : Reg8) (v : Byte)
  /-- RLC (R130). -/
  | rlc
  /-- One of the 13 bytes outside the accepted set, the byte itself (R87, R105). -/
  | unrecognised (op : Byte)
  /-- DAD rp (R160). -/
  | dad (p : Pair)
  /-- LDAX rp (R192). -/
  | ldax (p : IndPair)
  /-- DCX rp (R143). -/
  | dcx (p : Pair)
  /-- RRC (R131). -/
  | rrc
  /-- RAL (R132). -/
  | ral
  /-- RAR (R133). -/
  | rar
  /-- SHLD a16 (R195). -/
  | shld (addr : Word)
  /-- DAA (R163). -/
  | daa
  /-- LHLD a16 (R194). -/
  | lhld (addr : Word)
  /-- CMA (R200). -/
  | cma
  /-- STA a16 (R191). -/
  | sta (addr : Word)
  /-- STC (R201). -/
  | stc
  /-- LDA a16 (R190). -/
  | lda (addr : Word)
  /-- CMC (R202). -/
  | cmc
  /-- MOV ddd,sss (R110). -/
  | mov (dst src : Reg8)
  /-- ADD sss (R150). -/
  | add (r : Reg8)
  /-- ADC sss (R152). -/
  | adc (r : Reg8)
  /-- SUB sss (R154). -/
  | sub (r : Reg8)
  /-- SBB sss (R156). -/
  | sbb (r : Reg8)
  /-- ANA sss (R120). -/
  | ana (r : Reg8)
  /-- XRA sss (R122). -/
  | xra (r : Reg8)
  /-- ORA sss (R124). -/
  | ora (r : Reg8)
  /-- CMP sss (R158). -/
  | cmp (r : Reg8)
  /-- RNZ (R184). -/
  | rnz
  /-- POP rp, POP PSW (R173, R172). -/
  | pop (q : StackPair)
  /-- JNZ a16 (R182). -/
  | jnz (addr : Word)
  /-- JMP a16 (R181). -/
  | jmp (addr : Word)
  /-- CNZ a16 (R183). -/
  | cnz (addr : Word)
  /-- PUSH rp, PUSH PSW (R170, R171). -/
  | push (q : StackPair)
  /-- ADI d8 (R151). -/
  | adi (v : Byte)
  /-- RST n (R177). -/
  | rst (n : BitVec 3)
  /-- RZ (R184). -/
  | rz
  /-- RET (R175). -/
  | ret
  /-- JZ a16 (R182). -/
  | jz (addr : Word)
  /-- CZ a16 (R183). -/
  | cz (addr : Word)
  /-- CALL a16 (R174). -/
  | call (addr : Word)
  /-- ACI d8 (R153). -/
  | aci (v : Byte)
  /-- RNC (R184). -/
  | rnc
  /-- JNC a16 (R182). -/
  | jnc (addr : Word)
  /-- OUT p8 (R209). -/
  | outPort (port : Byte)
  /-- CNC a16 (R183). -/
  | cnc (addr : Word)
  /-- SUI d8 (R155). -/
  | sui (v : Byte)
  /-- RC (R184). -/
  | rc
  /-- JC a16 (R182). -/
  | jc (addr : Word)
  /-- IN p8 (R210). -/
  | inPort (port : Byte)
  /-- CC a16 (R183). -/
  | cc (addr : Word)
  /-- SBI d8 (R157). -/
  | sbi (v : Byte)
  /-- RPO (R184). -/
  | rpo
  /-- JPO a16 (R182). -/
  | jpo (addr : Word)
  /-- XTHL (R206). -/
  | xthl
  /-- CPO a16 (R183). -/
  | cpo (addr : Word)
  /-- ANI d8 (R121). -/
  | ani (v : Byte)
  /-- RPE (R184). -/
  | rpe
  /-- PCHL (R203). -/
  | pchl
  /-- JPE a16 (R182). -/
  | jpe (addr : Word)
  /-- XCHG (R205). -/
  | xchg
  /-- CPE a16 (R183). -/
  | cpe (addr : Word)
  /-- XRI d8 (R123). -/
  | xri (v : Byte)
  /-- RP (R184). -/
  | rp
  /-- JP a16 (R182). -/
  | jp (addr : Word)
  /-- DI (R207). -/
  | di
  /-- CP a16 (R183). -/
  | cp (addr : Word)
  /-- ORI d8 (R125). -/
  | ori (v : Byte)
  /-- RM (R184). -/
  | rm
  /-- SPHL (R204). -/
  | sphl
  /-- JM a16 (R182). -/
  | jm (addr : Word)
  /-- EI (R208). -/
  | ei
  /-- CM a16 (R183). -/
  | cm (addr : Word)
  /-- CPI d8 (R159). -/
  | cpi (v : Byte)
deriving DecidableEq, Repr

end Sys2Proof
end

