-- ==== Sys2Proof/WellFormed.lean ====
section
/-! DEFINITION. Which instructions have an encoding: all but `MOV M,M`, whose place in the map is the unrecognised byte
0x76 (41_move.md R110, 30_encoding.md R87), and an `unrecognised` that carries an accepted byte. -/

namespace Sys2Proof

/-- The 13 bytes outside the accepted set (30_encoding.md R87). -/
def unrecognisedBytes : List Byte :=
  [0x08, 0x10, 0x18, 0x20, 0x28, 0x30, 0x38, 0x76, 0xCB, 0xD9, 0xDD, 0xED, 0xFD]

/-- The instruction exists in the opcode map (30_encoding.md R83). -/
def Instr.wf : Instr → Bool
  | .nop => true
  | .lxi _ _ => true
  | .stax _ => true
  | .inx _ => true
  | .inr _ => true
  | .dcr _ => true
  | .mvi _ _ => true
  | .rlc => true
  | .unrecognised op => unrecognisedBytes.contains op
  | .dad _ => true
  | .ldax _ => true
  | .dcx _ => true
  | .rrc => true
  | .ral => true
  | .rar => true
  | .shld _ => true
  | .daa => true
  | .lhld _ => true
  | .cma => true
  | .sta _ => true
  | .stc => true
  | .lda _ => true
  | .cmc => true
  | .mov dst src => !(decide (dst = .m) && decide (src = .m))
  | .add _ => true
  | .adc _ => true
  | .sub _ => true
  | .sbb _ => true
  | .ana _ => true
  | .xra _ => true
  | .ora _ => true
  | .cmp _ => true
  | .rnz => true
  | .pop _ => true
  | .jnz _ => true
  | .jmp _ => true
  | .cnz _ => true
  | .push _ => true
  | .adi _ => true
  | .rst _ => true
  | .rz => true
  | .ret => true
  | .jz _ => true
  | .cz _ => true
  | .call _ => true
  | .aci _ => true
  | .rnc => true
  | .jnc _ => true
  | .outPort _ => true
  | .cnc _ => true
  | .sui _ => true
  | .rc => true
  | .jc _ => true
  | .inPort _ => true
  | .cc _ => true
  | .sbi _ => true
  | .rpo => true
  | .jpo _ => true
  | .xthl => true
  | .cpo _ => true
  | .ani _ => true
  | .rpe => true
  | .pchl => true
  | .jpe _ => true
  | .xchg => true
  | .cpe _ => true
  | .xri _ => true
  | .rp => true
  | .jp _ => true
  | .di => true
  | .cp _ => true
  | .ori _ => true
  | .rm => true
  | .sphl => true
  | .jm _ => true
  | .ei => true
  | .cm _ => true
  | .cpi _ => true

end Sys2Proof
end

