-- ==== Sys2Proof/Decode.lean ====
section
/-! DEFINITION. Decoding (30_encoding.md R80 to R88) and, after it, encoding. The decoder looks its byte up in the opcode
map of R83, transcribed cell for cell; the encoder builds the byte from the fields of R81 and the patterns of R84. The
two are written from different tables of the spec, so that their round trip compares the tables. -/

namespace Sys2Proof

/-- What the first byte of an instruction selects (30_encoding.md R80): an instruction with no operand byte, with one, or
with two that make a word. -/
inductive Form where
  /-- Format F1, 1 byte. -/
  | f1 (i : Instr)
  /-- Format F2, 2 bytes. -/
  | f2 (mk : Byte → Instr)
  /-- Format F3, 3 bytes. -/
  | f3 (mk : Word → Instr)

/-- The number of bytes of a form (30_encoding.md R80). -/
def Form.length : Form → Nat
  | .f1 _ => 1
  | .f2 _ => 2
  | .f3 _ => 3

/-- The instruction of a form, given the two bytes that follow the opcode; a form that has fewer operand bytes ignores
the rest. Low byte first (30_encoding.md R82). -/
def Form.build : Form → Byte → Byte → Instr
  | .f1 i, _, _ => i
  | .f2 mk, b1, _ => mk b1
  | .f3 mk, b1, b2 => mk (b2 ++ b1)

/-- Rows 0x to 3x of the opcode map (30_encoding.md R83). -/
def opcodeRows0 : List (List Form) :=
  [[.f1 .nop, .f3 (.lxi .bc), .f1 (.stax .bc), .f1 (.inx .bc),
    .f1 (.inr .b), .f1 (.dcr .b), .f2 (.mvi .b), .f1 .rlc,
    .f1 (.unrecognised 0x08), .f1 (.dad .bc), .f1 (.ldax .bc), .f1 (.dcx .bc),
    .f1 (.inr .c), .f1 (.dcr .c), .f2 (.mvi .c), .f1 .rrc]] ++
  [[.f1 (.unrecognised 0x10), .f3 (.lxi .de), .f1 (.stax .de), .f1 (.inx .de),
    .f1 (.inr .d), .f1 (.dcr .d), .f2 (.mvi .d), .f1 .ral,
    .f1 (.unrecognised 0x18), .f1 (.dad .de), .f1 (.ldax .de), .f1 (.dcx .de),
    .f1 (.inr .e), .f1 (.dcr .e), .f2 (.mvi .e), .f1 .rar]] ++
  [[.f1 (.unrecognised 0x20), .f3 (.lxi .hl), .f3 .shld, .f1 (.inx .hl),
    .f1 (.inr .h), .f1 (.dcr .h), .f2 (.mvi .h), .f1 .daa,
    .f1 (.unrecognised 0x28), .f1 (.dad .hl), .f3 .lhld, .f1 (.dcx .hl),
    .f1 (.inr .l), .f1 (.dcr .l), .f2 (.mvi .l), .f1 .cma]] ++
  [[.f1 (.unrecognised 0x30), .f3 (.lxi .sp), .f3 .sta, .f1 (.inx .sp),
    .f1 (.inr .m), .f1 (.dcr .m), .f2 (.mvi .m), .f1 .stc,
    .f1 (.unrecognised 0x38), .f1 (.dad .sp), .f3 .lda, .f1 (.dcx .sp),
    .f1 (.inr .a), .f1 (.dcr .a), .f2 (.mvi .a), .f1 .cmc]]

/-- Rows 4x to 7x of the opcode map (30_encoding.md R83). -/
def opcodeRows4 : List (List Form) :=
  [[.f1 (.mov .b .b), .f1 (.mov .b .c), .f1 (.mov .b .d), .f1 (.mov .b .e),
    .f1 (.mov .b .h), .f1 (.mov .b .l), .f1 (.mov .b .m), .f1 (.mov .b .a),
    .f1 (.mov .c .b), .f1 (.mov .c .c), .f1 (.mov .c .d), .f1 (.mov .c .e),
    .f1 (.mov .c .h), .f1 (.mov .c .l), .f1 (.mov .c .m), .f1 (.mov .c .a)]] ++
  [[.f1 (.mov .d .b), .f1 (.mov .d .c), .f1 (.mov .d .d), .f1 (.mov .d .e),
    .f1 (.mov .d .h), .f1 (.mov .d .l), .f1 (.mov .d .m), .f1 (.mov .d .a),
    .f1 (.mov .e .b), .f1 (.mov .e .c), .f1 (.mov .e .d), .f1 (.mov .e .e),
    .f1 (.mov .e .h), .f1 (.mov .e .l), .f1 (.mov .e .m), .f1 (.mov .e .a)]] ++
  [[.f1 (.mov .h .b), .f1 (.mov .h .c), .f1 (.mov .h .d), .f1 (.mov .h .e),
    .f1 (.mov .h .h), .f1 (.mov .h .l), .f1 (.mov .h .m), .f1 (.mov .h .a),
    .f1 (.mov .l .b), .f1 (.mov .l .c), .f1 (.mov .l .d), .f1 (.mov .l .e),
    .f1 (.mov .l .h), .f1 (.mov .l .l), .f1 (.mov .l .m), .f1 (.mov .l .a)]] ++
  [[.f1 (.mov .m .b), .f1 (.mov .m .c), .f1 (.mov .m .d), .f1 (.mov .m .e),
    .f1 (.mov .m .h), .f1 (.mov .m .l), .f1 (.unrecognised 0x76), .f1 (.mov .m .a),
    .f1 (.mov .a .b), .f1 (.mov .a .c), .f1 (.mov .a .d), .f1 (.mov .a .e),
    .f1 (.mov .a .h), .f1 (.mov .a .l), .f1 (.mov .a .m), .f1 (.mov .a .a)]]

/-- Rows 8x to Bx of the opcode map (30_encoding.md R83). -/
def opcodeRows8 : List (List Form) :=
  [[.f1 (.add .b), .f1 (.add .c), .f1 (.add .d), .f1 (.add .e),
    .f1 (.add .h), .f1 (.add .l), .f1 (.add .m), .f1 (.add .a),
    .f1 (.adc .b), .f1 (.adc .c), .f1 (.adc .d), .f1 (.adc .e),
    .f1 (.adc .h), .f1 (.adc .l), .f1 (.adc .m), .f1 (.adc .a)]] ++
  [[.f1 (.sub .b), .f1 (.sub .c), .f1 (.sub .d), .f1 (.sub .e),
    .f1 (.sub .h), .f1 (.sub .l), .f1 (.sub .m), .f1 (.sub .a),
    .f1 (.sbb .b), .f1 (.sbb .c), .f1 (.sbb .d), .f1 (.sbb .e),
    .f1 (.sbb .h), .f1 (.sbb .l), .f1 (.sbb .m), .f1 (.sbb .a)]] ++
  [[.f1 (.ana .b), .f1 (.ana .c), .f1 (.ana .d), .f1 (.ana .e),
    .f1 (.ana .h), .f1 (.ana .l), .f1 (.ana .m), .f1 (.ana .a),
    .f1 (.xra .b), .f1 (.xra .c), .f1 (.xra .d), .f1 (.xra .e),
    .f1 (.xra .h), .f1 (.xra .l), .f1 (.xra .m), .f1 (.xra .a)]] ++
  [[.f1 (.ora .b), .f1 (.ora .c), .f1 (.ora .d), .f1 (.ora .e),
    .f1 (.ora .h), .f1 (.ora .l), .f1 (.ora .m), .f1 (.ora .a),
    .f1 (.cmp .b), .f1 (.cmp .c), .f1 (.cmp .d), .f1 (.cmp .e),
    .f1 (.cmp .h), .f1 (.cmp .l), .f1 (.cmp .m), .f1 (.cmp .a)]]

/-- Rows Cx to Fx of the opcode map (30_encoding.md R83). -/
def opcodeRowsC : List (List Form) :=
  [[.f1 .rnz, .f1 (.pop .bc), .f3 .jnz, .f3 .jmp,
    .f3 .cnz, .f1 (.push .bc), .f2 .adi, .f1 (.rst 0),
    .f1 .rz, .f1 .ret, .f3 .jz, .f1 (.unrecognised 0xCB),
    .f3 .cz, .f3 .call, .f2 .aci, .f1 (.rst 1)]] ++
  [[.f1 .rnc, .f1 (.pop .de), .f3 .jnc, .f2 .outPort,
    .f3 .cnc, .f1 (.push .de), .f2 .sui, .f1 (.rst 2),
    .f1 .rc, .f1 (.unrecognised 0xD9), .f3 .jc, .f2 .inPort,
    .f3 .cc, .f1 (.unrecognised 0xDD), .f2 .sbi, .f1 (.rst 3)]] ++
  [[.f1 .rpo, .f1 (.pop .hl), .f3 .jpo, .f1 .xthl,
    .f3 .cpo, .f1 (.push .hl), .f2 .ani, .f1 (.rst 4),
    .f1 .rpe, .f1 .pchl, .f3 .jpe, .f1 .xchg,
    .f3 .cpe, .f1 (.unrecognised 0xED), .f2 .xri, .f1 (.rst 5)]] ++
  [[.f1 .rp, .f1 (.pop .psw), .f3 .jp, .f1 .di,
    .f3 .cp, .f1 (.push .psw), .f2 .ori, .f1 (.rst 6),
    .f1 .rm, .f1 .sphl, .f3 .jm, .f1 .ei,
    .f3 .cm, .f1 (.unrecognised 0xFD), .f2 .cpi, .f1 (.rst 7)]]

/-- The opcode map (30_encoding.md R83): row = high hex digit of the opcode, column = low hex digit. -/
def opcodeMap : List (List Form) := opcodeRows0 ++ opcodeRows4 ++ opcodeRows8 ++ opcodeRowsC

/-- The entry of an opcode byte; the map is total over the 256 bytes (40_dispatch.md R103), so the two fallbacks are never
taken. -/
def formOf (op : Byte) : Form :=
  (opcodeMap.getD (op.toNat / 16) []).getD (op.toNat % 16) (.f1 (.unrecognised op))

/-- The length of an instruction, from its first byte alone (30_encoding.md R80). -/
def instrLength (op : Byte) : Nat := (formOf op).length

/-- The instruction that an opcode byte and the two bytes after it make. -/
def decodeBytes (op b1 b2 : Byte) : Instr := (formOf op).build b1 b2

/-- Why a list of bytes holds no instruction. Every opcode byte and every operand byte is legal (30_encoding.md R88), so the
only reason is that bytes are missing. -/
inductive DecodeError where
  /-- There is no byte at all. -/
  | noOpcode
  /-- The opcode byte is there and an operand byte it needs is not. -/
  | missingOperand (op : Byte)
deriving DecidableEq, Repr

/-- Read one instruction from a list of bytes and return it with the bytes after it (30_encoding.md R80, R82). -/
def decode : List Byte → Except DecodeError (Instr × List Byte)
  | [] => .error .noOpcode
  | op :: rest =>
    match formOf op, rest with
    | .f1 i, rest => .ok (i, rest)
    | .f2 mk, b1 :: rest => .ok (mk b1, rest)
    | .f3 mk, b1 :: b2 :: rest => .ok (mk (b2 ++ b1), rest)
    | _, _ => .error (.missingOperand op)

/-- Byte `k` of an instruction whose bits are `w` (byte 0 is the first byte), where only the lowest `nbits` bits of `w`
count and every bit above them is 0. -/
def wordByte (nbits w k : Nat) : Byte := BitVec.ofNat 8 ((w % 2 ^ nbits) / 256 ^ k)

/-- The three bytes, first one first, of an instruction numbered as spec/opcode_table.json numbers its bits. -/
def tableWordBytes (nbits w : Nat) : List Byte := [wordByte nbits w 0, wordByte nbits w 1, wordByte nbits w 2]

/-- What the decoder reads from an instruction numbered as spec/opcode_table.json numbers its bits. -/
def decodeTableWord (nbits w : Nat) : Option Instr :=
  match decode (tableWordBytes nbits w) with
  | .ok (i, _) => some i
  | .error _ => none

/-! ### Encoding -/

/-- The code of a register operand (30_encoding.md R81, 10_state.md R21). -/
def Reg8.code : Reg8 → BitVec 3
  | .b => 0 | .c => 1 | .d => 2 | .e => 3 | .h => 4 | .l => 5 | .m => 6 | .a => 7

/-- The code of a pair operand (30_encoding.md R81, 10_state.md R22). -/
def Pair.code : Pair → BitVec 2
  | .bc => 0 | .de => 1 | .hl => 2 | .sp => 3

/-- The code of a PUSH or POP operand (30_encoding.md R81): code 3 is PSW. -/
def StackPair.code : StackPair → BitVec 2
  | .bc => 0 | .de => 1 | .hl => 2 | .psw => 3

/-- The code of an LDAX or STAX operand (48_memmove.md R192). -/
def IndPair.code : IndPair → BitVec 2
  | .bc => 0 | .de => 1

/-- The code of a condition (47_branch.md R180). -/
def Cond.code : Cond → BitVec 3
  | .nz => 0 | .z => 1 | .nc => 2 | .c => 3 | .po => 4 | .pe => 5 | .p => 6 | .m => 7

/-- An opcode byte from its fields `xx yyy zzz` (30_encoding.md R81). -/
def opXYZ (x : BitVec 2) (y z : BitVec 3) : Byte := x ++ y ++ z

/-- An opcode byte from its fields `xx pp q zzz` (30_encoding.md R81). -/
def opXPQZ (x p : BitVec 2) (q : BitVec 1) (z : BitVec 3) : Byte := x ++ p ++ q ++ z

/-- The bytes of a format F3 instruction: opcode, low byte, high byte (30_encoding.md R80). -/
def bytes3 (op : Byte) (v : Word) : List Byte := [op, v.extractLsb' 0 8, v.extractLsb' 8 8]

/-- The bytes of an instruction, by the patterns of 30_encoding.md R84. -/
def encode : Instr → List Byte
  | .nop => [0b00000000]
  | .lxi p v => bytes3 (opXPQZ 0 p.code 0 1) v
  | .stax p => [opXPQZ 0 p.code 0 2]
  | .inx p => [opXPQZ 0 p.code 0 3]
  | .inr r => [opXYZ 0 r.code 4]
  | .dcr r => [opXYZ 0 r.code 5]
  | .mvi r v => [opXYZ 0 r.code 6, v]
  | .rlc => [0b00000111]
  | .unrecognised op => [op]
  | .dad p => [opXPQZ 0 p.code 1 1]
  | .ldax p => [opXPQZ 0 p.code 1 2]
  | .dcx p => [opXPQZ 0 p.code 1 3]
  | .rrc => [0b00001111]
  | .ral => [0b00010111]
  | .rar => [0b00011111]
  | .shld addr => bytes3 0b00100010 addr
  | .daa => [0b00100111]
  | .lhld addr => bytes3 0b00101010 addr
  | .cma => [0b00101111]
  | .sta addr => bytes3 0b00110010 addr
  | .stc => [0b00110111]
  | .lda addr => bytes3 0b00111010 addr
  | .cmc => [0b00111111]
  | .mov dst src => [opXYZ 1 dst.code src.code]
  | .add r => [opXYZ 2 0 r.code]
  | .adc r => [opXYZ 2 1 r.code]
  | .sub r => [opXYZ 2 2 r.code]
  | .sbb r => [opXYZ 2 3 r.code]
  | .ana r => [opXYZ 2 4 r.code]
  | .xra r => [opXYZ 2 5 r.code]
  | .ora r => [opXYZ 2 6 r.code]
  | .cmp r => [opXYZ 2 7 r.code]
  | .rnz => [opXYZ 3 (Cond.code .nz) 0]
  | .pop q => [opXPQZ 3 q.code 0 1]
  | .jnz addr => bytes3 (opXYZ 3 (Cond.code .nz) 2) addr
  | .jmp addr => bytes3 0b11000011 addr
  | .cnz addr => bytes3 (opXYZ 3 (Cond.code .nz) 4) addr
  | .push q => [opXPQZ 3 q.code 0 5]
  | .adi v => [opXYZ 3 0 6, v]
  | .rst n => [opXYZ 3 n 7]
  | .rz => [opXYZ 3 (Cond.code .z) 0]
  | .ret => [0b11001001]
  | .jz addr => bytes3 (opXYZ 3 (Cond.code .z) 2) addr
  | .cz addr => bytes3 (opXYZ 3 (Cond.code .z) 4) addr
  | .call addr => bytes3 0b11001101 addr
  | .aci v => [opXYZ 3 1 6, v]
  | .rnc => [opXYZ 3 (Cond.code .nc) 0]
  | .jnc addr => bytes3 (opXYZ 3 (Cond.code .nc) 2) addr
  | .outPort port => [0b11010011, port]
  | .cnc addr => bytes3 (opXYZ 3 (Cond.code .nc) 4) addr
  | .sui v => [opXYZ 3 2 6, v]
  | .rc => [opXYZ 3 (Cond.code .c) 0]
  | .jc addr => bytes3 (opXYZ 3 (Cond.code .c) 2) addr
  | .inPort port => [0b11011011, port]
  | .cc addr => bytes3 (opXYZ 3 (Cond.code .c) 4) addr
  | .sbi v => [opXYZ 3 3 6, v]
  | .rpo => [opXYZ 3 (Cond.code .po) 0]
  | .jpo addr => bytes3 (opXYZ 3 (Cond.code .po) 2) addr
  | .xthl => [0b11100011]
  | .cpo addr => bytes3 (opXYZ 3 (Cond.code .po) 4) addr
  | .ani v => [opXYZ 3 4 6, v]
  | .rpe => [opXYZ 3 (Cond.code .pe) 0]
  | .pchl => [0b11101001]
  | .jpe addr => bytes3 (opXYZ 3 (Cond.code .pe) 2) addr
  | .xchg => [0b11101011]
  | .cpe addr => bytes3 (opXYZ 3 (Cond.code .pe) 4) addr
  | .xri v => [opXYZ 3 5 6, v]
  | .rp => [opXYZ 3 (Cond.code .p) 0]
  | .jp addr => bytes3 (opXYZ 3 (Cond.code .p) 2) addr
  | .di => [0b11110011]
  | .cp addr => bytes3 (opXYZ 3 (Cond.code .p) 4) addr
  | .ori v => [opXYZ 3 6 6, v]
  | .rm => [opXYZ 3 (Cond.code .m) 0]
  | .sphl => [0b11111001]
  | .jm addr => bytes3 (opXYZ 3 (Cond.code .m) 2) addr
  | .ei => [0b11111011]
  | .cm addr => bytes3 (opXYZ 3 (Cond.code .m) 4) addr
  | .cpi v => [opXYZ 3 7 6, v]

end Sys2Proof
end

