-- ==== Sys2Proof/Machine/Flags.lean ====
section
/-! DEFINITION. The flag byte (10_state.md R26): reading its five named bits, the flag primitives SetZSP, SetCY,
UpdateFlagsAdd and UpdateFlagsSub (R28 to R31), and the branch conditions (47_branch.md R180). An intermediate is an
integer (00_scope.md R8). Bits 1, 3 and 4 are written by none of these (R27). -/

namespace Sys2Proof.Machine

/-- Carry, bit 0 (10_state.md R26). -/
def flagC (f : Byte) : Bool := f.getLsbD 0

/-- AuxCarry, bit 2 (10_state.md R26). -/
def flagAC (f : Byte) : Bool := f.getLsbD 2

/-- Parity ("Even"), bit 5 (10_state.md R26). -/
def flagP (f : Byte) : Bool := f.getLsbD 5

/-- Zero, bit 6 (10_state.md R26). -/
def flagZ (f : Byte) : Bool := f.getLsbD 6

/-- Sign, bit 7 (10_state.md R26). -/
def flagS (f : Byte) : Bool := f.getLsbD 7

/-- `low8(t)`: t modulo 256, the mathematical modulus (00_scope.md R8). -/
def low8 (t : Int) : Byte := BitVec.ofInt 8 t

/-- A byte with one of its bits written and every other bit kept. -/
def setBit (f : Byte) (i : Nat) (v : Bool) : Byte :=
  if v then f ||| (1#8 <<< i) else f &&& ~~~(1#8 <<< i)

/-- The number of 1 bits of a byte (10_state.md R28). -/
def popcount (v : Byte) : Nat := (List.range 8).countP (fun i => v.getLsbD i)

/-- `SetZSP(t)` (10_state.md R28). -/
def setZSP (f : Byte) (t : Int) : Byte :=
  setBit (setBit (setBit f 6 (decide (low8 t = 0))) 7 (decide ((low8 t).toNat > 0x7F))) 5
    (decide (popcount (low8 t) % 2 = 0))

/-- `SetCY(c)`: Carry and AuxCarry both (10_state.md R29). -/
def setCY (f : Byte) (c : Bool) : Byte := setBit (setBit f 0 c) 2 c

/-- `UpdateFlagsAdd(t)` (10_state.md R30). -/
def updateFlagsAdd (f : Byte) (t : Int) : Byte := setCY (setZSP f t) (decide (t > 0xFF))

/-- `UpdateFlagsSub(t)` (10_state.md R31). -/
def updateFlagsSub (f : Byte) (t : Int) : Byte := setCY (setZSP f t) (decide (t < 0 ∨ t > 0xFF))

/-- F.C read as 0 or 1 (45_arith.md R152). -/
def carryIn (f : Byte) : Int := if flagC f then 1 else 0

/-- `Cond(ccc)` (47_branch.md R180). -/
def condHolds (f : Byte) : Cond → Bool
  | .nz => !flagZ f
  | .z => flagZ f
  | .nc => !flagC f
  | .c => flagC f
  | .po => !flagP f
  | .pe => flagP f
  | .p => !flagS f
  | .m => flagS f

end Sys2Proof.Machine
end

