-- ==== Sys2Proof/Config.lean ====
section
/-! DEFINITION. What one implementation fixes: the three OPEN parameters of 00_scope.md R5 (STACK_POLICY, CYCLES,
IN_OTHER), the defaults the spec gives for two of them, and the constants R5 states. -/

namespace Sys2Proof.Machine

/-- A byte store kept sparsely: (address, byte) pairs in rising order of address, none holding 0x00; an address not
listed reads 0x00 (10_state.md R40: Memory is created zeroed). `Memory.wf` of Machine/Ops.lean is that form. -/
abbrev Memory := List Host.Cell

end Sys2Proof.Machine

namespace Sys2Proof

/-- STACK_POLICY (00_scope.md R5; 92_eei_decisions.md D13): OPEN. -/
inductive StackPolicy where
  /-- SP runs through the whole 16-bit address space. -/
  | unbounded
  /-- SP is confined to the 256-byte window that the latest `SetPointer` pinned. -/
  | windowed
deriving DecidableEq, Repr

/-- The OPEN parameters of 00_scope.md R5. A machine state carries one value of them; no action changes it
(log 1: DESIGN CHOICE, the host's step takes a state and nothing else). -/
structure Config where
  /-- STACK_POLICY (D13). -/
  stackPolicy : StackPolicy
  /-- CYCLES, the cost `Step` returns, by opcode byte (70_reset_and_hazards.md R270, D5). -/
  cycles : List Nat
  /-- IN_OTHER, the byte `IN` reads from a port other than 1, 2, 3, by port number (60_exceptions.md R237, D18); a port
  that is not listed reads 0x00, the default the spec names. -/
  inOther : Machine.Memory
deriving DecidableEq, Repr

/-- The default CYCLES table of 70_reset_and_hazards.md R271, row = high digit of the opcode, column = low digit. -/
def defaultCycles : List Nat :=
  [ 4, 10,  7,  5,  5,  5,  7,  4,  1, 10,  7,  5,  5,  5,  7,  4] ++
  [ 1, 10,  7,  5,  5,  5,  7,  4,  1, 10,  7,  5,  5,  5,  7,  4] ++
  [ 1, 10, 16,  5,  5,  5,  7,  4,  1, 10, 16,  5,  5,  5,  7,  4] ++
  [ 1, 10, 13,  5, 10, 10, 10,  4,  1, 10, 13,  5,  5,  5,  7,  4] ++
  [ 5,  5,  5,  5,  5,  5,  7,  5,  5,  5,  5,  5,  5,  5,  7,  5] ++
  [ 5,  5,  5,  5,  5,  5,  7,  5,  5,  5,  5,  5,  5,  5,  7,  5] ++
  [ 5,  5,  5,  5,  5,  5,  7,  5,  5,  5,  5,  5,  5,  5,  7,  5] ++
  [ 7,  7,  7,  7,  7,  7,  1,  7,  5,  5,  5,  5,  5,  5,  7,  5] ++
  [ 4,  4,  4,  4,  4,  4,  7,  4,  4,  4,  4,  4,  4,  4,  7,  4] ++
  [ 4,  4,  4,  4,  4,  4,  7,  4,  4,  4,  4,  4,  4,  4,  7,  4] ++
  [ 4,  4,  4,  4,  4,  4,  7,  4,  4,  4,  4,  4,  4,  4,  7,  4] ++
  [ 4,  4,  4,  4,  4,  4,  7,  4,  4,  4,  4,  4,  4,  4,  7,  4] ++
  [11, 10, 10, 10, 17, 11,  7, 11, 11, 10, 10,  1, 17, 17,  7, 11] ++
  [11, 10, 10, 10, 17, 11,  7, 11, 11,  1, 10, 10, 17,  1,  7, 11] ++
  [11, 10, 10, 18, 17, 11,  7, 11, 11,  5, 10,  4, 17,  1,  7, 11] ++
  [11, 10, 10,  4, 17, 11,  7, 11, 11,  5, 10,  4, 17,  1,  7, 11]

/-- The parameters at `State.reset`: CYCLES and IN_OTHER at the spec's defaults (R271, D18; logs 3 and 4), and
STACK_POLICY = unbounded (log 2, DESIGN CHOICE: the spec names no default). -/
def Config.default : Config :=
  { stackPolicy := .unbounded, cycles := defaultCycles, inOther := [] }

/-- The size of Memory in bytes (00_scope.md R5): the longest image `LoadImage` takes (70_reset_and_hazards.md R263). -/
def memorySize : Nat := 65536

end Sys2Proof
end

