-- ==== Sys2Proof/Machine/State.lean ====
section
/-! DEFINITION. The state of CORE as plain data (10_state.md, opening table), the DRIVER's actions (00_scope.md R10), the
reasons a step can stop, and the state after reset (10_state.md R40, 70_reset_and_hazards.md R261). -/

namespace Sys2Proof.Machine

/-- One of the two input-port registers, the `k` of `SetInputPort(k, v)` (60_exceptions.md R236). -/
inductive InputPort where
  | port1 | port2
deriving DecidableEq, Repr

/-- The complete DRIVER interface (00_scope.md R10): the labels of the transition system. The vector number has 3 bits
(60_exceptions.md R224). -/
inductive DriverAction where
  /-- `LoadImage(bytes)` (70_reset_and_hazards.md R263). -/
  | loadImage (bytes : List Byte)
  /-- `Step()` (40_dispatch.md R100). -/
  | step
  /-- `RaiseInterrupt(n)` (60_exceptions.md R224). -/
  | raiseInterrupt (n : BitVec 3)
  /-- `SetInputPort(k, v)` (60_exceptions.md R236). -/
  | setInputPort (k : InputPort) (v : Byte)
  /-- `ReadMemory(addr)` (20_memory.md R57). -/
  | readMemory (addr : Word)
deriving DecidableEq, Repr

/-- What a DRIVER action returns (00_scope.md R10, column `returns`). -/
inductive Returned where
  /-- The action returns nothing, or no action has happened since reset (log 7). -/
  | nothing
  /-- `Step` returns a cycle count (40_dispatch.md R100). -/
  | cycles (n : Nat)
  /-- `ReadMemory` returns a byte (20_memory.md R57). -/
  | byte (v : Byte)
deriving DecidableEq, Repr

/-- A diagnostic record `Diag(op, addr)` (40_dispatch.md R105): the opcode byte and the address it was fetched from. -/
structure DiagRecord where
  op : Byte
  addr : Word
deriving DecidableEq, Repr

/-- The state of CORE (10_state.md, opening table, and the rule named at each field), and after it the model's own
fields. -/
structure State where
  /-- Register A, the accumulator (R20). -/
  a : Byte
  /-- Register B (R20). -/
  b : Byte
  /-- Register C (R20). -/
  c : Byte
  /-- Register D (R20). -/
  d : Byte
  /-- Register E (R20). -/
  e : Byte
  /-- Register H (R20). -/
  h : Byte
  /-- Register L (R20). -/
  l : Byte
  /-- The flag register F (R26): C bit 0, AC bit 2, P bit 5, Z bit 6, S bit 7; bits 1, 3, 4 are storage (R27). -/
  f : Byte
  /-- The program counter (R24). -/
  pc : Word
  /-- The stack pointer (R25). -/
  sp : Word
  /-- Memory (20_memory.md R50). -/
  mem : Memory
  /-- IE, the interrupt-enable flag (R33). -/
  ie : Bool
  /-- SHIFT, the shift register (R34). -/
  shift : Word
  /-- SHOFF, the shift offset (R34). -/
  shoff : BitVec 3
  /-- INP1, the input-port register of port 1 (R35). -/
  inp1 : Byte
  /-- INP2, the input-port register of port 2 (R35). -/
  inp2 : Byte
  /-- WPIN, whether a stack window is pinned (R36). -/
  wpin : Bool
  /-- WMIN, the lowest address of the window (R36). -/
  wmin : Word
  /-- WMAX, the highest address of the window (R36). -/
  wmax : Word
  /-- The OPEN parameters (00_scope.md R5), which no action changes (log 1). -/
  config : Config
  /-- The DRIVER's coming actions, first one first; when it is empty the DRIVER calls `Step` (log 5). -/
  schedule : List DriverAction
  /-- Whether `LoadImage` is still allowed: once, after reset and before the first `Step` (00_scope.md R10; log 6). -/
  loadable : Bool
  /-- What the latest DRIVER action returned (00_scope.md R10; log 7). No action reads it. -/
  returned : Returned
  /-- The diagnostic records emitted so far, oldest first (40_dispatch.md R105; log 8). No action reads it. -/
  diags : List DiagRecord
deriving DecidableEq, Repr

/-- The faults of the machine: there is none. "CORE has no synchronous exception of any kind" (60_exceptions.md R220) and no
fault state (00_scope.md R11), so the type has no constructor and no meaning can raise one. -/
inductive Fault : Type where
deriving DecidableEq, Repr

/-- Why the model gives no next state. -/
inductive Refusal where
  /-- An instruction that has no meaning yet, by its mnemonic; raised by no arm of `exec`. Safe: the model stops. -/
  | notModelled (mnemonic : String)
  /-- `LoadImage` after an earlier `LoadImage` or after the first `Step`, which its precondition excludes
  (70_reset_and_hazards.md R263, 93_implementation_defined.md U5); raised by the DRIVER's action, by no instruction.
  Safe: the model stops where the spec gives no effect. -/
  | loadImageTooLate
  /-- `LoadImage` of more than 65536 bytes, which its precondition excludes (R263, U5); raised by the DRIVER's action, by no
  instruction. Safe: the model stops where the spec gives no effect. -/
  | loadImageTooLong
deriving DecidableEq, Repr

/-- The state after reset, for given OPEN parameters (10_state.md R40, 70_reset_and_hazards.md R261): everything is zero. -/
def State.resetWith (config : Config) : State where
  a := 0
  b := 0
  c := 0
  d := 0
  e := 0
  h := 0
  l := 0
  f := 0
  pc := 0
  sp := 0
  mem := []
  ie := false
  shift := 0
  shoff := 0
  inp1 := 0
  inp2 := 0
  wpin := false
  wmin := 0
  wmax := 0
  config := config
  schedule := []
  loadable := true
  returned := .nothing
  diags := []

/-- The state after reset (70_reset_and_hazards.md R261) with the default parameters (`Config.default`; logs 2 to 4). -/
def State.reset : State := State.resetWith Config.default

end Sys2Proof.Machine
end

