-- ==== Sys2Proof/Machine/Ops.lean ====
section
/-! DEFINITION. The named operations over the state: memory (20_memory.md), the Stack Manager (20_memory.md section 6), the
instruction-stream fetch (40_dispatch.md R101, R102), interrupt entry and return (60_exceptions.md R224, R228), the I/O Port
Interface (60_exceptions.md R231 to R237), and what `Step` hands to the outside (40_dispatch.md R100, R105). -/

namespace Sys2Proof.Machine

/-- What an instruction or a step answers. -/
abbrev Result := Host.Outcome State Fault Refusal

/-! ### Bytes and words -/

/-- Bits 15..8 of a word (00_scope.md R6). -/
def hi8 (w : Word) : Byte := w.extractLsb' 8 8

/-- Bits 7..0 of a word (00_scope.md R6). -/
def lo8 (w : Word) : Byte := w.extractLsb' 0 8

/-- `hi:lo` (00_scope.md R6). -/
def word (hi lo : Byte) : Word := hi ++ lo

/-! ### The byte store -/

/-- The byte at an address; 0x00 where nothing is listed (10_state.md R40). -/
def Memory.read : Memory → Nat → Byte
  | [], _ => 0
  | (k, v) :: m, addr => if k = addr then v else Memory.read m addr

/-- The store without an entry for the address. -/
def Memory.erase (m : Memory) (addr : Nat) : Memory := m.filter (fun cell => cell.1 ≠ addr)

/-- The store with an entry put before the first one of a higher address. -/
def Memory.insert : Memory → Nat → Byte → Memory
  | [], addr, v => [(addr, v)]
  | (k, w) :: m, addr, v => if addr < k then (addr, v) :: (k, w) :: m else (k, w) :: Memory.insert m addr v

/-- Store one byte (20_memory.md R51). Storing 0x00, which an unlisted address reads as, leaves no entry. -/
def Memory.write (m : Memory) (addr : Nat) (v : Byte) : Memory :=
  if v = 0 then m.erase addr else (m.erase addr).insert addr v

/-- Store bytes one after another from an address on (70_reset_and_hazards.md R263). -/
def Memory.load : Memory → Nat → List Byte → Memory
  | m, _, [] => m
  | m, addr, v :: bytes => Memory.load (m.write addr v) (addr + 1) bytes

/-- Addresses strictly rise from `low` on and stay below `bound`, and no entry holds 0x00. -/
def Memory.wfFrom (bound : Nat) : Nat → Memory → Bool
  | _, [] => true
  | low, (k, v) :: m => decide (low ≤ k) && decide (k < bound) && decide (v ≠ 0) && Memory.wfFrom bound (k + 1) m

/-- The canonical form of Memory: equal memories are equal lists. -/
def Memory.wf (m : Memory) : Bool := Memory.wfFrom memorySize 0 m

/-! ### Memory access -/

/-- `MemRead(addr, 1)` (20_memory.md R50). -/
def State.memRead (s : State) (addr : Word) : Byte := Memory.read s.mem addr.toNat

/-- `MemWrite(addr, 1, v)` (20_memory.md R51). -/
def State.memWrite (s : State) (addr : Word) (v : Byte) : State := { s with mem := Memory.write s.mem addr.toNat v }

/-- `MemRead(addr, 2)`, low byte at `addr` (20_memory.md R53). -/
def State.memRead16 (s : State) (addr : Word) : Word := word (s.memRead (addr + 1)) (s.memRead addr)

/-- `MemWrite(addr, 2, v)`, low byte first (20_memory.md R53). -/
def State.memWrite16 (s : State) (addr : Word) (v : Word) : State :=
  (s.memWrite addr (lo8 v)).memWrite (addr + 1) (hi8 v)

/-! ### The Stack Manager -/

/-- `SetPointer(v)` (20_memory.md R60): under the windowed policy it pins the window [v - 255, v]. -/
def State.setPointer (s : State) (v : Word) : State :=
  match s.config.stackPolicy with
  | .unbounded => { s with sp := v }
  | .windowed => { s with sp := v, wpin := true, wmax := v, wmin := v - 255 }

/-- Where the next `PushByte` puts its byte (20_memory.md R61): one below SP, or WMAX if that is just below a pinned
window. -/
def State.pushSlot (s : State) : Word :=
  if s.config.stackPolicy = .windowed ∧ s.wpin = true ∧ s.sp - 1 = s.wmin - 1 then s.wmax else s.sp - 1

/-- Where SP stands after the next `PopByte` (20_memory.md R62): one above SP, or WMIN if that is just above a pinned
window. -/
def State.popSlot (s : State) : Word :=
  if s.config.stackPolicy = .windowed ∧ s.wpin = true ∧ s.sp + 1 = s.wmax + 1 then s.wmin else s.sp + 1

/-- `PushByte(b)`: move SP, then write (20_memory.md R61). -/
def State.pushByte (s : State) (v : Byte) : State :=
  ({ s with sp := s.pushSlot } : State).memWrite s.pushSlot v

/-- `PopByte()`: read, then move SP (20_memory.md R62). -/
def State.popByte (s : State) : Byte × State := (s.memRead s.sp, { s with sp := s.popSlot })

/-- `PushWord(w)`: the high byte, then the low byte (20_memory.md R63). -/
def State.pushWord (s : State) (w : Word) : State := (s.pushByte (hi8 w)).pushByte (lo8 w)

/-- `PopWord()`: the low byte, then the high byte (20_memory.md R64). -/
def State.popWord (s : State) : Word × State :=
  let lo := s.popByte
  let hi := lo.2.popByte
  (word hi.1 lo.1, hi.2)

/-! ### Control transfer -/

/-- `pc <- target` (10_state.md R24). -/
def State.jump (s : State) (target : Word) : State := { s with pc := target }

/-- Push the return address and go to a target: CALL, a taken Ccc, RST, interrupt entry (46_stack.md R176). -/
def State.callTo (s : State) (target : Word) : State := (s.pushWord s.pc).jump target

/-- `8 * n`, the target of RST n and of `RaiseInterrupt(n)` (46_stack.md R177, 60_exceptions.md R224). -/
def vector (n : BitVec 3) : Word := n.zeroExtend 16 <<< 3

/-- `RaiseInterrupt(n)`, interrupt entry (60_exceptions.md R224): nothing if IE = 0, and nothing is remembered (R225);
otherwise IE is cleared, pc is pushed and pc goes to the vector. Nothing else is saved. -/
def State.raiseInterrupt (s : State) (n : BitVec 3) : State :=
  if s.ie then ({ s with ie := false } : State).callTo (vector n) else s

/-- `pc <- PopWord()`, the return from a subroutine and from an interrupt handler (46_stack.md R175, 60_exceptions.md
R228). -/
def State.returnPC (s : State) : State := s.popWord.2.jump s.popWord.1

/-! ### The instruction stream -/

/-- `Fetch8()` (40_dispatch.md R101): at pc = 0xFFFF it returns 0x00 and pc stays. -/
def State.fetch8 (s : State) : Byte × State :=
  if s.pc = 0xFFFF then (0, s) else (s.memRead s.pc, { s with pc := s.pc + 1 })

/-! ### The I/O Port Interface -/

/-- The shifter's output, bits `15 - SHOFF` down to `8 - SHOFF` of SHIFT (60_exceptions.md R234). -/
def State.shifterOut (s : State) : Byte := (s.shift >>> (8 - s.shoff.toNat)).truncate 8

/-- `PortRead(p)` (60_exceptions.md R231, R234, R235, R237). -/
def State.portRead (s : State) (port : Byte) : Byte :=
  if port = 1 then s.inp1
  else if port = 2 then s.inp2
  else if port = 3 then s.shifterOut
  else Memory.read s.config.inOther port.toNat

/-- `PortWrite(p, v)` (60_exceptions.md R231, R232, R233, R237). -/
def State.portWrite (s : State) (port v : Byte) : State :=
  if port = 2 then { s with shoff := v.truncate 3 }
  else if port = 4 then { s with shift := word v (hi8 s.shift) }
  else s

/-- `SetInputPort(k, v)` (60_exceptions.md R236). -/
def State.setInputPort (s : State) (k : InputPort) (v : Byte) : State :=
  match k with
  | .port1 => { s with inp1 := v }
  | .port2 => { s with inp2 := v }

/-! ### What Step hands to the outside -/

/-- `Diag(op, a)` (40_dispatch.md R105). The opcode was fetched from the address before pc: an unrecognised opcode is one
byte long and is never the sentinel of the fetch guard (log 9). -/
def State.emitDiag (s : State) (op : Byte) : State := { s with diags := s.diags ++ [⟨op, s.pc - 1⟩] }

/-- The number `Step` returns for an opcode byte (40_dispatch.md R100, 70_reset_and_hazards.md R270): 1 for an unrecognised
one whatever CYCLES says (D4), else CYCLES(op). -/
def State.stepCost (s : State) (op : Byte) : Nat :=
  if unrecognisedBytes.contains op then 1 else s.config.cycles.getD op.toNat 1

/-- The end of `Step`: it returns its cycle count, and `LoadImage` is no longer allowed (40_dispatch.md R100, 00_scope.md
R10). -/
def State.finishStep (s : State) (op : Byte) : State :=
  { s with returned := .cycles (s.stepCost op), loadable := false }

end Sys2Proof.Machine
end

