-- ==== Sys2Proof/Machine/Operands.lean ====
section
/-! DEFINITION. Every operand form: the pair views (10_state.md R22, R23), the 8-bit register operand with its memory form M
(R21), the pair operand whose code 3 is SP (R22) or PSW (46_stack.md R171, R172), and the pair that addresses memory
(48_memmove.md R192, R193). Immediates are fields of the instruction. -/

namespace Sys2Proof.Machine

/-- `BC = B:C` (10_state.md R22). -/
def State.bc (s : State) : Word := word s.b s.c

/-- `DE = D:E` (10_state.md R22). -/
def State.de (s : State) : Word := word s.d s.e

/-- `HL = H:L` (10_state.md R22). -/
def State.hl (s : State) : Word := word s.h s.l

/-- `PSW = A:F` (10_state.md R23). -/
def State.psw (s : State) : Word := word s.a s.f

/-- `BC <- v` (10_state.md R22). -/
def State.setBC (s : State) (v : Word) : State := { s with b := hi8 v, c := lo8 v }

/-- `DE <- v` (10_state.md R22). -/
def State.setDE (s : State) (v : Word) : State := { s with d := hi8 v, e := lo8 v }

/-- `HL <- v` (10_state.md R22). -/
def State.setHL (s : State) (v : Word) : State := { s with h := hi8 v, l := lo8 v }

/-- `PSW <- v`, all eight bits of F written (10_state.md R23, R27). -/
def State.setPSW (s : State) (v : Word) : State := { s with a := hi8 v, f := lo8 v }

/-- `x[r]` (10_state.md R21). -/
def State.readReg (s : State) : Reg8 → Byte
  | .b => s.b
  | .c => s.c
  | .d => s.d
  | .e => s.e
  | .h => s.h
  | .l => s.l
  | .m => s.memRead s.hl
  | .a => s.a

/-- `x[r] <- v` (10_state.md R21). -/
def State.writeReg (s : State) (r : Reg8) (v : Byte) : State :=
  match r with
  | .b => { s with b := v }
  | .c => { s with c := v }
  | .d => { s with d := v }
  | .e => { s with e := v }
  | .h => { s with h := v }
  | .l => { s with l := v }
  | .m => s.memWrite s.hl v
  | .a => { s with a := v }

/-- `rp[p]` with code 3 = SP: `GetPointer()` (10_state.md R22, 20_memory.md R60). -/
def State.readPair (s : State) : Pair → Word
  | .bc => s.bc
  | .de => s.de
  | .hl => s.hl
  | .sp => s.sp

/-- `rp[p] <- v` with code 3 = SP: `SetPointer(v)` (10_state.md R22, 20_memory.md R60). -/
def State.writePair (s : State) (p : Pair) (v : Word) : State :=
  match p with
  | .bc => s.setBC v
  | .de => s.setDE v
  | .hl => s.setHL v
  | .sp => s.setPointer v

/-- `rp[p]` with code 3 = PSW (46_stack.md R170, R171). -/
def State.readStackPair (s : State) : StackPair → Word
  | .bc => s.bc
  | .de => s.de
  | .hl => s.hl
  | .psw => s.psw

/-- `rp[p] <- v` with code 3 = PSW (46_stack.md R172, R173). -/
def State.writeStackPair (s : State) (q : StackPair) (v : Word) : State :=
  match q with
  | .bc => s.setBC v
  | .de => s.setDE v
  | .hl => s.setHL v
  | .psw => s.setPSW v

/-- The address held by BC or DE (48_memmove.md R192, R193). -/
def State.readIndPair (s : State) : IndPair → Word
  | .bc => s.bc
  | .de => s.de

end Sys2Proof.Machine
end

