-- ==== Sys2Proof/Machine/Arith.lean ====
section
/-! DEFINITION. Arithmetic family (45_arith.md): ADD ADI ADC ACI SUB SUI SBB SBI CMP CPI DAD DAA. -/

namespace Sys2Proof.Machine

/-- `A <- low8(t); UpdateFlagsAdd(t)` (45_arith.md R150, R152). -/
def State.addResult (s : State) (t : Int) : State := { s with a := low8 t, f := updateFlagsAdd s.f t }

/-- `A <- low8(t); UpdateFlagsSub(t)` (45_arith.md R154, R156). -/
def State.subResult (s : State) (t : Int) : State := { s with a := low8 t, f := updateFlagsSub s.f t }

/-- `UpdateFlagsSub(t)`, A not written (45_arith.md R158). -/
def State.compareResult (s : State) (t : Int) : State := { s with f := updateFlagsSub s.f t }

/-- `HL <- t mod 65536; SetCY(t > 0xFFFF)` for the sum t of HL and a pair, wider than 16 bits (45_arith.md R160). -/
def State.addToHL (s : State) (v : Word) : State :=
  { s.setHL (BitVec.ofNat 16 (s.hl.toNat + v.toNat)) with f := setCY s.f (decide (s.hl.toNat + v.toNat > 0xFFFF)) }

/-- DAA's pseudocode (45_arith.md R163): the low correction, then the high one tested on the value after it, on an integer that
is kept wider than 8 bits; AuxCarry is written only when the low correction is made, and Carry is not coupled to it. -/
def State.decimalAdjust (s : State) : State :=
  let t0 := s.a.toNat
  let low := decide (t0 % 16 > 9) || flagAC s.f
  let f1 := if low then setBit s.f 2 (decide (t0 % 16 + 6 > 0x0F)) else s.f
  let t1 := if low then t0 + 0x06 else t0
  let high := decide (t1 / 16 > 9) || flagC s.f
  let t2 := if high then t1 + 0x60 else t1
  { s with a := low8 t2, f := setBit (setZSP f1 t2) 0 (decide (t2 > 0xFF)) }

/-- ADD sss (45_arith.md R150). -/
def execAdd (r : Reg8) (s : State) : Result := .next (s.addResult (s.a.toNat + (s.readReg r).toNat))

/-- ADI d8 (45_arith.md R151). -/
def execAdi (v : Byte) (s : State) : Result := .next (s.addResult (s.a.toNat + v.toNat))

/-- ADC sss (45_arith.md R152). -/
def execAdc (r : Reg8) (s : State) : Result := .next (s.addResult (s.a.toNat + (s.readReg r).toNat + carryIn s.f))

/-- ACI d8 (45_arith.md R153). -/
def execAci (v : Byte) (s : State) : Result := .next (s.addResult (s.a.toNat + v.toNat + carryIn s.f))

/-- SUB sss (45_arith.md R154). -/
def execSub (r : Reg8) (s : State) : Result := .next (s.subResult (s.a.toNat - (s.readReg r).toNat))

/-- SUI d8 (45_arith.md R155). -/
def execSui (v : Byte) (s : State) : Result := .next (s.subResult (s.a.toNat - v.toNat))

/-- SBB sss (45_arith.md R156). -/
def execSbb (r : Reg8) (s : State) : Result := .next (s.subResult (s.a.toNat - (s.readReg r).toNat - carryIn s.f))

/-- SBI d8 (45_arith.md R157). -/
def execSbi (v : Byte) (s : State) : Result := .next (s.subResult (s.a.toNat - v.toNat - carryIn s.f))

/-- CMP sss (45_arith.md R158). -/
def execCmp (r : Reg8) (s : State) : Result := .next (s.compareResult (s.a.toNat - (s.readReg r).toNat))

/-- CPI d8 (45_arith.md R159). -/
def execCpi (v : Byte) (s : State) : Result := .next (s.compareResult (s.a.toNat - v.toNat))

/-- DAD rp (45_arith.md R160). -/
def execDad (p : Pair) (s : State) : Result := .next (s.addToHL (s.readPair p))

/-- DAA (45_arith.md R163). -/
def execDaa (s : State) : Result := .next s.decimalAdjust

end Sys2Proof.Machine
end

