-- ==== Sys2Proof/Machine/Basic.lean ====
section
/-! DEFINITION. Dispatch family (40_dispatch.md): NOP and the unrecognised opcodes. A meaning runs on the state whose pc has passed the
whole instruction (R102: operand fetches happen before any other effect). -/

namespace Sys2Proof.Machine

/-- NOP: nothing (40_dispatch.md R104). -/
def execNop (s : State) : Result := .next s

/-- An unrecognised opcode: `Diag(op, a)` and nothing else (40_dispatch.md R105). -/
def execUnrecognised (op : Byte) (s : State) : Result := .next (s.emitDiag op)

end Sys2Proof.Machine
end

