-- ==== Sys2Proof/Machine/Branch.lean ====
section
/-! DEFINITION. Branch family (47_branch.md): JMP, the eight Jcc, the eight Ccc, the eight Rcc. The address operand has been fetched
whether or not the condition holds (R182). -/

namespace Sys2Proof.Machine

/-- `if Cond(ccc) then pc <- target` (47_branch.md R182). -/
def State.jumpIf (s : State) (cond : Cond) (target : Word) : State := if condHolds s.f cond then s.jump target else s

/-- `if Cond(ccc) then PushWord(pc); pc <- target` (47_branch.md R183). -/
def State.callIf (s : State) (cond : Cond) (target : Word) : State := if condHolds s.f cond then s.callTo target else s

/-- `if Cond(ccc) then pc <- PopWord()` (47_branch.md R184). -/
def State.returnIf (s : State) (cond : Cond) : State := if condHolds s.f cond then s.returnPC else s

/-- JMP a16 (47_branch.md R181). -/
def execJmp (addr : Word) (s : State) : Result := .next (s.jump addr)

/-- JNZ a16 (47_branch.md R182). -/
def execJnz (addr : Word) (s : State) : Result := .next (s.jumpIf .nz addr)

/-- JZ a16 (47_branch.md R182). -/
def execJz (addr : Word) (s : State) : Result := .next (s.jumpIf .z addr)

/-- JNC a16 (47_branch.md R182). -/
def execJnc (addr : Word) (s : State) : Result := .next (s.jumpIf .nc addr)

/-- JC a16 (47_branch.md R182). -/
def execJc (addr : Word) (s : State) : Result := .next (s.jumpIf .c addr)

/-- JPO a16 (47_branch.md R182). -/
def execJpo (addr : Word) (s : State) : Result := .next (s.jumpIf .po addr)

/-- JPE a16 (47_branch.md R182). -/
def execJpe (addr : Word) (s : State) : Result := .next (s.jumpIf .pe addr)

/-- JP a16 (47_branch.md R182). -/
def execJp (addr : Word) (s : State) : Result := .next (s.jumpIf .p addr)

/-- JM a16 (47_branch.md R182). -/
def execJm (addr : Word) (s : State) : Result := .next (s.jumpIf .m addr)

/-- CNZ a16 (47_branch.md R183). -/
def execCnz (addr : Word) (s : State) : Result := .next (s.callIf .nz addr)

/-- CZ a16 (47_branch.md R183). -/
def execCz (addr : Word) (s : State) : Result := .next (s.callIf .z addr)

/-- CNC a16 (47_branch.md R183). -/
def execCnc (addr : Word) (s : State) : Result := .next (s.callIf .nc addr)

/-- CC a16 (47_branch.md R183). -/
def execCc (addr : Word) (s : State) : Result := .next (s.callIf .c addr)

/-- CPO a16 (47_branch.md R183). -/
def execCpo (addr : Word) (s : State) : Result := .next (s.callIf .po addr)

/-- CPE a16 (47_branch.md R183). -/
def execCpe (addr : Word) (s : State) : Result := .next (s.callIf .pe addr)

/-- CP a16 (47_branch.md R183). -/
def execCp (addr : Word) (s : State) : Result := .next (s.callIf .p addr)

/-- CM a16 (47_branch.md R183). -/
def execCm (addr : Word) (s : State) : Result := .next (s.callIf .m addr)

/-- RNZ (47_branch.md R184). -/
def execRnz (s : State) : Result := .next (s.returnIf .nz)

/-- RZ (47_branch.md R184). -/
def execRz (s : State) : Result := .next (s.returnIf .z)

/-- RNC (47_branch.md R184). -/
def execRnc (s : State) : Result := .next (s.returnIf .nc)

/-- RC (47_branch.md R184). -/
def execRc (s : State) : Result := .next (s.returnIf .c)

/-- RPO (47_branch.md R184). -/
def execRpo (s : State) : Result := .next (s.returnIf .po)

/-- RPE (47_branch.md R184). -/
def execRpe (s : State) : Result := .next (s.returnIf .pe)

/-- RP (47_branch.md R184). -/
def execRp (s : State) : Result := .next (s.returnIf .p)

/-- RM (47_branch.md R184). -/
def execRm (s : State) : Result := .next (s.returnIf .m)

end Sys2Proof.Machine
end

