-- ==== Sys2Proof/Machine/IncDec.lean ====
section
/-! DEFINITION. Increment/Decrement family (44_incdec.md): INR, DCR, INX, DCX. -/

namespace Sys2Proof.Machine

/-- `if c then SetCY(1)`: INX and DCX write Carry on wraparound only (44_incdec.md R142, R143). -/
def State.forceCarry (s : State) (c : Bool) : State := if c then { s with f := setCY s.f true } else s

/-- `x[ddd] <- low8(t); SetZSP(t); SetCY(wrap)` (44_incdec.md R140, R141). -/
def State.countByte (s : State) (r : Reg8) (t : Int) (wrap : Bool) : State :=
  { s.writeReg r (low8 t) with f := setCY (setZSP s.f t) wrap }

/-- INR ddd (44_incdec.md R140). -/
def execInr (r : Reg8) (s : State) : Result :=
  .next (s.countByte r ((s.readReg r).toNat + 1) (decide (s.readReg r = 0xFF)))

/-- DCR ddd (44_incdec.md R141). -/
def execDcr (r : Reg8) (s : State) : Result :=
  .next (s.countByte r ((s.readReg r).toNat - 1) (decide (s.readReg r = 0x00)))

/-- INX rp (44_incdec.md R142). -/
def execInx (p : Pair) (s : State) : Result :=
  .next ((s.writePair p (s.readPair p + 1)).forceCarry (decide (s.readPair p = 0xFFFF)))

/-- DCX rp (44_incdec.md R143). -/
def execDcx (p : Pair) (s : State) : Result :=
  .next ((s.writePair p (s.readPair p - 1)).forceCarry (decide (s.readPair p = 0x0000)))

end Sys2Proof.Machine
end

