-- ==== Sys2Proof/Machine/Logic.lean ====
section
/-! DEFINITION. Logic family (42_logic.md): ANA, ANI, XRA, XRI, ORA, ORI. -/

namespace Sys2Proof.Machine

/-- `A <- t; UpdateFlagsAdd(t)` for a logic result, a byte, so that Carry and AuxCarry are cleared (42_logic.md, common
text). -/
def State.logicA (s : State) (v : Byte) : State := { s with a := v, f := updateFlagsAdd s.f v.toNat }

/-- ANA sss (42_logic.md R120). -/
def execAna (r : Reg8) (s : State) : Result := .next (s.logicA (s.a &&& s.readReg r))

/-- ANI d8 (42_logic.md R121). -/
def execAni (v : Byte) (s : State) : Result := .next (s.logicA (s.a &&& v))

/-- XRA sss (42_logic.md R122). -/
def execXra (r : Reg8) (s : State) : Result := .next (s.logicA (s.a ^^^ s.readReg r))

/-- XRI d8 (42_logic.md R123). -/
def execXri (v : Byte) (s : State) : Result := .next (s.logicA (s.a ^^^ v))

/-- ORA sss (42_logic.md R124). -/
def execOra (r : Reg8) (s : State) : Result := .next (s.logicA (s.a ||| s.readReg r))

/-- ORI d8 (42_logic.md R125). -/
def execOri (v : Byte) (s : State) : Result := .next (s.logicA (s.a ||| v))

end Sys2Proof.Machine
end

