-- ==== Sys2Proof/Machine/MemMove.lean ====
section
/-! DEFINITION. Memory move family (48_memmove.md): LDA, STA, LDAX, STAX, LHLD, SHLD, LXI. None writes a flag. -/

namespace Sys2Proof.Machine

/-- LDA a16 (48_memmove.md R190). -/
def execLda (addr : Word) (s : State) : Result := .next { s with a := s.memRead addr }

/-- STA a16 (48_memmove.md R191). -/
def execSta (addr : Word) (s : State) : Result := .next (s.memWrite addr s.a)

/-- LDAX rp (48_memmove.md R192). -/
def execLdax (p : IndPair) (s : State) : Result := .next { s with a := s.memRead (s.readIndPair p) }

/-- STAX rp (48_memmove.md R193). -/
def execStax (p : IndPair) (s : State) : Result := .next (s.memWrite (s.readIndPair p) s.a)

/-- LHLD a16 (48_memmove.md R194). -/
def execLhld (addr : Word) (s : State) : Result := .next (s.setHL (s.memRead16 addr))

/-- SHLD a16 (48_memmove.md R195). -/
def execShld (addr : Word) (s : State) : Result := .next (s.memWrite16 addr s.hl)

/-- LXI rp,d16 (48_memmove.md R196). -/
def execLxi (p : Pair) (v : Word) (s : State) : Result := .next (s.writePair p v)

end Sys2Proof.Machine
end

