-- ==== Sys2Proof/Machine/Misc.lean ====
section
/-! DEFINITION. Miscellaneous and I/O instructions (49_misc_io.md): CMA STC CMC PCHL SPHL XCHG XTHL DI EI OUT IN. -/

namespace Sys2Proof.Machine

/-- CMA (49_misc_io.md R200). -/
def execCma (s : State) : Result := .next { s with a := s.a ^^^ 0xFF }

/-- STC (49_misc_io.md R201). -/
def execStc (s : State) : Result := .next { s with f := setCY s.f true }

/-- CMC (49_misc_io.md R202). -/
def execCmc (s : State) : Result := .next { s with f := setCY s.f (!flagC s.f) }

/-- PCHL (49_misc_io.md R203). -/
def execPchl (s : State) : Result := .next (s.jump s.hl)

/-- SPHL (49_misc_io.md R204). -/
def execSphl (s : State) : Result := .next (s.setPointer s.hl)

/-- XCHG (49_misc_io.md R205). -/
def execXchg (s : State) : Result := .next ((s.setHL s.de).setDE s.hl)

/-- XTHL (49_misc_io.md R206): pop, push HL, HL takes what was popped. -/
def execXthl (s : State) : Result := .next ((s.popWord.2.pushWord s.hl).setHL s.popWord.1)

/-- DI (49_misc_io.md R207). -/
def execDi (s : State) : Result := .next { s with ie := false }

/-- EI (49_misc_io.md R208): effective at once. -/
def execEi (s : State) : Result := .next { s with ie := true }

/-- OUT p8 (49_misc_io.md R209). -/
def execOutPort (port : Byte) (s : State) : Result := .next (s.portWrite port s.a)

/-- IN p8 (49_misc_io.md R210). -/
def execInPort (port : Byte) (s : State) : Result := .next { s with a := s.portRead port }

end Sys2Proof.Machine
end

