-- ==== Sys2Proof/Machine/Move.lean ====
section
/-! DEFINITION. Move family (41_move.md): MOV, MVI. "Pure copy, no flag effect." -/

namespace Sys2Proof.Machine

/-- MOV ddd,sss (41_move.md R110). -/
def execMov (dst src : Reg8) (s : State) : Result := .next (s.writeReg dst (s.readReg src))

/-- MVI ddd,d8 (41_move.md R111). -/
def execMvi (r : Reg8) (v : Byte) (s : State) : Result := .next (s.writeReg r v)

end Sys2Proof.Machine
end

