-- ==== Sys2Proof/Machine/Rotate.lean ====
section
/-! DEFINITION. Rotate family (43_rotate.md): RLC, RRC, RAL, RAR. Only Carry, and AuxCarry with it, is written (R29). -/

namespace Sys2Proof.Machine

/-- A moved one place towards bit 7, a bit entering at bit 0; the bit shifted out goes to Carry (43_rotate.md R130, R132). -/
def State.rotateLeft (s : State) (bitIn : Bool) : State :=
  { s with a := s.a.extractLsb' 0 7 ++ BitVec.ofBool bitIn, f := setCY s.f (s.a.getLsbD 7) }

/-- A moved one place towards bit 0, a bit entering at bit 7; the bit shifted out goes to Carry (43_rotate.md R131, R133). -/
def State.rotateRight (s : State) (bitIn : Bool) : State :=
  { s with a := BitVec.ofBool bitIn ++ s.a.extractLsb' 1 7, f := setCY s.f (s.a.getLsbD 0) }

/-- RLC (43_rotate.md R130). -/
def execRlc (s : State) : Result := .next (s.rotateLeft (s.a.getLsbD 7))

/-- RRC (43_rotate.md R131). -/
def execRrc (s : State) : Result := .next (s.rotateRight (s.a.getLsbD 0))

/-- RAL (43_rotate.md R132). -/
def execRal (s : State) : Result := .next (s.rotateLeft (flagC s.f))

/-- RAR (43_rotate.md R133). -/
def execRar (s : State) : Result := .next (s.rotateRight (flagC s.f))

end Sys2Proof.Machine
end

