-- ==== Sys2Proof/Machine/Stack.lean ====
section
/-! DEFINITION. Stack family (46_stack.md): PUSH, POP, CALL, RET, RST, all through the Stack Manager. -/

namespace Sys2Proof.Machine

/-- PUSH rp, PUSH PSW (46_stack.md R170, R171). -/
def execPush (q : StackPair) (s : State) : Result := .next (s.pushWord (s.readStackPair q))

/-- POP rp, POP PSW (46_stack.md R173, R172). -/
def execPop (q : StackPair) (s : State) : Result := .next (s.popWord.2.writeStackPair q s.popWord.1)

/-- CALL a16 (46_stack.md R174). -/
def execCall (addr : Word) (s : State) : Result := .next (s.callTo addr)

/-- RET (46_stack.md R175). -/
def execRet (s : State) : Result := .next s.returnPC

/-- RST n (46_stack.md R177). -/
def execRst (n : BitVec 3) (s : State) : Result := .next (s.callTo (vector n))

end Sys2Proof.Machine
end

