-- ==== Sys2Proof/Machine/Dispatch.lean ====
section
/-! DEFINITION. One arm per instruction (40_dispatch.md R103), each a direct call of that instruction's meaning. -/

namespace Sys2Proof.Machine

-- `exec i s`: the effect of `i` on a state whose pc has passed the bytes of `i`.
def exec (i : Instr) (s : State) : Host.Outcome State Fault Refusal :=
  match i with
  | .nop => Sys2Proof.Machine.execNop s
  | .lxi p v => Sys2Proof.Machine.execLxi p v s
  | .stax p => Sys2Proof.Machine.execStax p s
  | .inx p => Sys2Proof.Machine.execInx p s
  | .inr r => Sys2Proof.Machine.execInr r s
  | .dcr r => Sys2Proof.Machine.execDcr r s
  | .mvi r v => Sys2Proof.Machine.execMvi r v s
  | .rlc => Sys2Proof.Machine.execRlc s
  | .unrecognised op => Sys2Proof.Machine.execUnrecognised op s
  | .dad p => Sys2Proof.Machine.execDad p s
  | .ldax p => Sys2Proof.Machine.execLdax p s
  | .dcx p => Sys2Proof.Machine.execDcx p s
  | .rrc => Sys2Proof.Machine.execRrc s
  | .ral => Sys2Proof.Machine.execRal s
  | .rar => Sys2Proof.Machine.execRar s
  | .shld addr => Sys2Proof.Machine.execShld addr s
  | .daa => Sys2Proof.Machine.execDaa s
  | .lhld addr => Sys2Proof.Machine.execLhld addr s
  | .cma => Sys2Proof.Machine.execCma s
  | .sta addr => Sys2Proof.Machine.execSta addr s
  | .stc => Sys2Proof.Machine.execStc s
  | .lda addr => Sys2Proof.Machine.execLda addr s
  | .cmc => Sys2Proof.Machine.execCmc s
  | .mov dst src => Sys2Proof.Machine.execMov dst src s
  | .add r => Sys2Proof.Machine.execAdd r s
  | .adc r => Sys2Proof.Machine.execAdc r s
  | .sub r => Sys2Proof.Machine.execSub r s
  | .sbb r => Sys2Proof.Machine.execSbb r s
  | .ana r => Sys2Proof.Machine.execAna r s
  | .xra r => Sys2Proof.Machine.execXra r s
  | .ora r => Sys2Proof.Machine.execOra r s
  | .cmp r => Sys2Proof.Machine.execCmp r s
  | .rnz => Sys2Proof.Machine.execRnz s
  | .pop q => Sys2Proof.Machine.execPop q s
  | .jnz addr => Sys2Proof.Machine.execJnz addr s
  | .jmp addr => Sys2Proof.Machine.execJmp addr s
  | .cnz addr => Sys2Proof.Machine.execCnz addr s
  | .push q => Sys2Proof.Machine.execPush q s
  | .adi v => Sys2Proof.Machine.execAdi v s
  | .rst n => Sys2Proof.Machine.execRst n s
  | .rz => Sys2Proof.Machine.execRz s
  | .ret => Sys2Proof.Machine.execRet s
  | .jz addr => Sys2Proof.Machine.execJz addr s
  | .cz addr => Sys2Proof.Machine.execCz addr s
  | .call addr => Sys2Proof.Machine.execCall addr s
  | .aci v => Sys2Proof.Machine.execAci v s
  | .rnc => Sys2Proof.Machine.execRnc s
  | .jnc addr => Sys2Proof.Machine.execJnc addr s
  | .outPort port => Sys2Proof.Machine.execOutPort port s
  | .cnc addr => Sys2Proof.Machine.execCnc addr s
  | .sui v => Sys2Proof.Machine.execSui v s
  | .rc => Sys2Proof.Machine.execRc s
  | .jc addr => Sys2Proof.Machine.execJc addr s
  | .inPort port => Sys2Proof.Machine.execInPort port s
  | .cc addr => Sys2Proof.Machine.execCc addr s
  | .sbi v => Sys2Proof.Machine.execSbi v s
  | .rpo => Sys2Proof.Machine.execRpo s
  | .jpo addr => Sys2Proof.Machine.execJpo addr s
  | .xthl => Sys2Proof.Machine.execXthl s
  | .cpo addr => Sys2Proof.Machine.execCpo addr s
  | .ani v => Sys2Proof.Machine.execAni v s
  | .rpe => Sys2Proof.Machine.execRpe s
  | .pchl => Sys2Proof.Machine.execPchl s
  | .jpe addr => Sys2Proof.Machine.execJpe addr s
  | .xchg => Sys2Proof.Machine.execXchg s
  | .cpe addr => Sys2Proof.Machine.execCpe addr s
  | .xri v => Sys2Proof.Machine.execXri v s
  | .rp => Sys2Proof.Machine.execRp s
  | .jp addr => Sys2Proof.Machine.execJp addr s
  | .di => Sys2Proof.Machine.execDi s
  | .cp addr => Sys2Proof.Machine.execCp addr s
  | .ori v => Sys2Proof.Machine.execOri v s
  | .rm => Sys2Proof.Machine.execRm s
  | .sphl => Sys2Proof.Machine.execSphl s
  | .jm addr => Sys2Proof.Machine.execJm addr s
  | .ei => Sys2Proof.Machine.execEi s
  | .cm addr => Sys2Proof.Machine.execCm addr s
  | .cpi v => Sys2Proof.Machine.execCpi v s

end Sys2Proof.Machine
end

