-- ==== Sys2Proof/Machine/Driver.lean ====
section
/-! DEFINITION. The DRIVER's actions (00_scope.md R10): `Step`, with the fetching of an instruction (40_dispatch.md R100 to
R102), and the four others. -/

namespace Sys2Proof.Machine

/-- Read the operand bytes a form needs with `Fetch8`, low byte first (30_encoding.md R82, 40_dispatch.md R102), and give the
instruction they make with the state whose pc has passed them. -/
def State.fetchOperands (s : State) : Form → Instr × State
  | .f1 i => (i, s)
  | .f2 make => (make s.fetch8.1, s.fetch8.2)
  | .f3 make => (make (word s.fetch8.2.fetch8.1 s.fetch8.1), s.fetch8.2.fetch8.2)

/-- The opcode byte that the next `Step` fetches (40_dispatch.md R101): 0x00 at pc = 0xFFFF. -/
def State.opcode (s : State) : Byte := s.fetch8.1

/-- The instruction that the next `Step` executes, and the state whose pc has passed it (40_dispatch.md R100). Its operand
bytes are fetched before it has any other effect (R102). -/
def State.fetchInstr (s : State) : Instr × State := s.fetch8.2.fetchOperands (formOf s.opcode)

/-- `Step()` (40_dispatch.md R100): fetch one instruction, execute it, return its cycle cost. -/
def State.stepInstr (s : State) : Result :=
  match exec s.fetchInstr.1 s.fetchInstr.2 with
  | .next t => .next (t.finishStep s.opcode)
  | .fault r => .fault r
  | .refused r => .refused r

/-- `LoadImage(bytes)` (70_reset_and_hazards.md R263); outside its precondition it is refused (93_implementation_defined.md
U5). -/
def State.loadImage (s : State) (bytes : List Byte) : Result :=
  if s.loadable = false then .refused .loadImageTooLate
  else if memorySize < bytes.length then .refused .loadImageTooLong
  else .next { s with mem := Memory.load s.mem 0 bytes, loadable := false, returned := .nothing }

/-- One DRIVER action with what it returns (00_scope.md R10). -/
def State.perform (s : State) : DriverAction → Result
  | .loadImage bytes => s.loadImage bytes
  | .step => s.stepInstr
  | .raiseInterrupt n => .next { s.raiseInterrupt n with returned := .nothing }
  | .setInputPort k v => .next { s.setInputPort k v with returned := .nothing }
  | .readMemory addr => .next { s with returned := .byte (s.memRead addr) }

/-- Where `withFetchWord` puts an instruction: at pc, or at address 0 where three bytes from pc on would meet the fetch
guard of 40_dispatch.md R101. -/
def State.fetchAddress (s : State) : Word := if s.pc.toNat ≤ 0xFFFC then s.pc else 0

/-- The state with some bytes stored where the next `Step` fetches, and the DRIVER about to call `Step`. -/
def State.placeBytes (s : State) (bytes : List Byte) : State :=
  { s with pc := s.fetchAddress, mem := Memory.load s.mem s.fetchAddress.toNat bytes, schedule := [] }

end Sys2Proof.Machine
end

