-- ==== Sys2Proof/Machine/Step.lean ====
section
/-! DEFINITION. One step of the model is one DRIVER action (00_scope.md R9, R10): the first action of the schedule, or
`Step` where nothing is scheduled. -/

namespace Sys2Proof.Machine

/-- One step of the model: the DRIVER's next action; with nothing scheduled it calls `Step` (log 5). -/
def step (s : State) : Host.Outcome State Fault Refusal :=
  match s.schedule with
  | [] => s.stepInstr
  | act :: rest => ({ s with schedule := rest } : State).perform act

/-- The state with the instruction whose bits are `w` (numbered as spec/opcode_table.json numbers them, every bit above
`nbits` zero) stored where the next `Step` fetches it (log 10). -/
def State.withFetchWord (s : State) (nbits w : Nat) : State := s.placeBytes (tableWordBytes nbits w)

end Sys2Proof.Machine
end

