-- ==== Sys2Proof/Safety.lean ====
section
/-! DEFINITION. What claims about this machine are stated in: the invariant of every state that a run reaches, what it is
for a flag byte to come from a result, and, for each instruction, what the spec lets it write. The machine has no fault, so
a safe run is one in which the invariant holds and no LoadImage is refused. -/

namespace Sys2Proof

/-- The costs that the document fixes for an instruction (70_reset_and_hazards.md R270; log 34): by (b) 1 for an unrecognised
opcode; by (d) 4 or 5 for a form with a register operand and 7 for its form with M, where for INR M, DCR M and MVI M R271 and
90_conflicts.md C7 admit 10 as well; for every other instruction nothing. -/
def documentedCosts : Instr → Option (List Nat)
  | .unrecognised _ => some [1]
  | .mov dst src => some (if dst = .m ∨ src = .m then [7] else [4, 5])
  | .add r | .adc r | .sub r | .sbb r | .ana r | .xra r | .ora r | .cmp r => some (if r = .m then [7] else [4, 5])
  | .inr r | .dcr r => some (if r = .m then [7, 10] else [4, 5])
  | .mvi r _ => if r = .m then some [7, 10] else none
  | .nop | .lxi _ _ | .stax _ | .inx _ | .rlc | .dad _ | .ldax _ | .dcx _ | .rrc | .ral | .rar | .shld _ | .daa | .lhld _
  | .cma | .sta _ | .stc | .lda _ | .cmc | .rnz | .pop _ | .jnz _ | .jmp _ | .cnz _ | .push _ | .adi _ | .rst _ | .rz
  | .ret | .jz _ | .cz _ | .call _ | .aci _ | .rnc | .jnc _ | .outPort _ | .cnc _ | .sui _ | .rc | .jc _ | .inPort _
  | .cc _ | .sbi _ | .rpo | .jpo _ | .xthl | .cpo _ | .ani _ | .rpe | .pchl | .jpe _ | .xchg | .cpe _ | .xri _ | .rp
  | .jp _ | .di | .cp _ | .ori _ | .rm | .sphl | .jm _ | .ei | .cm _ | .cpi _ => none

/-- `n` may be the cost of opcode byte `op`: it is positive, and one of those the document fixes where it fixes any (R270). -/
def costAllowed (op : Byte) (n : Nat) : Bool :=
  decide (0 < n) && (documentedCosts (decodeBytes op 0 0)).all (fun costs => costs.contains n)

/-- The OPEN parameters are as 00_scope.md R5 and 70_reset_and_hazards.md R270 allow: an allowed cost for each of the 256 opcode
bytes, and IN_OTHER in canonical form over the 256 ports. -/
def Config.wf (config : Config) : Bool :=
  decide (config.cycles.length = 256) &&
    (List.range 256).all (fun op => costAllowed (BitVec.ofNat 8 op) (config.cycles.getD op 0)) &&
    Machine.Memory.wfFrom 256 0 config.inOther

end Sys2Proof

namespace Sys2Proof.Machine

/-! ### The invariant -/

/-- The stack window (20_memory.md R65, 10_state.md R36): there is none under the unbounded policy; a pinned one has 256
addresses and SP is one of them. -/
structure State.WindowOk (s : State) : Prop where
  unbounded : s.config.stackPolicy = .unbounded → s.wpin = false ∧ s.wmin = 0 ∧ s.wmax = 0
  size : s.wpin = true → s.wmin = s.wmax - 255
  inside : s.wpin = true → (s.wmax - s.sp).toNat ≤ 255

/-- What every step keeps: Memory in canonical form, the stack window, and parameters in their range. -/
structure State.Inv (s : State) : Prop where
  mem : Memory.wf s.mem = true
  window : s.WindowOk
  config : s.config.wf = true

/-! ### Flags -/

/-- Flag byte `g` is what an 8-bit result `v` makes of flag byte `f`, with Carry `cy` and AuxCarry `ac` (10_state.md R26 to
R29): Z, S, P from `v`, and the storage bits 1, 3, 4 of `f`. Parity is even when the exclusive or of all bits is 0. -/
structure ResultFlags (f g v : Byte) (cy ac : Bool) : Prop where
  zero : flagZ g = true ↔ v = 0
  sign : flagS g = true ↔ v.toNat > 0x7F
  parity : flagP g =
    !(v.getLsbD 0 ^^ v.getLsbD 1 ^^ v.getLsbD 2 ^^ v.getLsbD 3 ^^ v.getLsbD 4 ^^ v.getLsbD 5 ^^ v.getLsbD 6 ^^
      v.getLsbD 7)
  carry : flagC g = cy
  auxCarry : flagAC g = ac
  storage : ∀ k, k = 1 ∨ k = 3 ∨ k = 4 → g.getLsbD k = f.getLsbD k

/-- Flag byte `g` is flag byte `f` with C and AC both `cy` and every other bit kept (10_state.md R29). -/
def CarryFlags (f g : Byte) (cy : Bool) : Prop :=
  ∀ k, g.getLsbD k = if k = 0 ∨ k = 2 then cy else f.getLsbD k

/-- The bit of F that a condition reads, and the value it asks for (47_branch.md R180). -/
def condTest : Cond → Nat × Bool
  | .nz => (6, false)
  | .z => (6, true)
  | .nc => (0, false)
  | .c => (0, true)
  | .po => (5, false)
  | .pe => (5, true)
  | .p => (7, false)
  | .m => (7, true)

/-- The condition holds of flag byte `f` (47_branch.md R180). -/
def CondTrue (cond : Cond) (f : Byte) : Prop := f.getLsbD (condTest cond).1 = (condTest cond).2

/-! ### The conditional instructions by their condition (47_branch.md R182 to R184) -/

/-- J followed by the condition's letters. -/
def jcc : Cond → Word → Instr
  | .nz => .jnz | .z => .jz | .nc => .jnc | .c => .jc | .po => .jpo | .pe => .jpe | .p => .jp | .m => .jm

/-- C followed by the condition's letters. -/
def ccc : Cond → Word → Instr
  | .nz => .cnz | .z => .cz | .nc => .cnc | .c => .cc | .po => .cpo | .pe => .cpe | .p => .cp | .m => .cm

/-- R followed by the condition's letters. -/
def rcc : Cond → Instr
  | .nz => .rnz | .z => .rz | .nc => .rnc | .c => .rc | .po => .rpo | .pe => .rpe | .p => .rp | .m => .rm

/-! ### What becomes of an operand -/

/-- `t` is `s` with the register operand `r` holding `v`, up to F: the value, every other register, every other byte of
memory, and everything else (10_state.md R21). -/
structure WritesOperand (s t : State) (r : Reg8) (v : Byte) : Prop where
  value : t.readReg r = v
  others : ∀ x, x ≠ r → x ≠ .m → t.readReg x = s.readReg x
  memory : ∀ x, ¬(r = .m ∧ x = s.hl) → t.memRead x = s.memRead x
  rest : t = { s with a := t.a, b := t.b, c := t.c, d := t.d, e := t.e, h := t.h, l := t.l, f := t.f, mem := t.mem }

/-- `t` is `s` with the pair operand `p` holding `v`, up to F: the value, the other pairs, the window that `SetPointer` pins
under the windowed policy, and everything else (10_state.md R22, 20_memory.md R60). -/
structure WritesPair (s t : State) (p : Pair) (v : Word) : Prop where
  value : t.readPair p = v
  others : ∀ q, q ≠ p → t.readPair q = s.readPair q
  pinned : p = .sp ∧ s.config.stackPolicy = .windowed → t.wpin = true ∧ t.wmax = v ∧ t.wmin = v - 255
  kept : ¬(p = .sp ∧ s.config.stackPolicy = .windowed) → t.wpin = s.wpin ∧ t.wmax = s.wmax ∧ t.wmin = s.wmin
  rest : t = { s with b := t.b, c := t.c, d := t.d, e := t.e, h := t.h, l := t.l, f := t.f, sp := t.sp, wpin := t.wpin, wmax := t.wmax, wmin := t.wmin }

/-- `t` is `s` after `PushWord(w)`, up to pc and IE: the high byte at the first push address, the low byte at the second, SP at
the second, every other byte and everything else as before (20_memory.md R61, R63). -/
structure PushesWord (s t : State) (w : Word) : Prop where
  sp : t.sp = ({ s with sp := s.pushSlot } : State).pushSlot
  high : t.memRead s.pushSlot = hi8 w
  low : t.memRead t.sp = lo8 w
  memory : ∀ x, x ≠ s.pushSlot → x ≠ t.sp → t.memRead x = s.memRead x
  rest : t = { s with sp := t.sp, mem := t.mem, pc := t.pc, ie := t.ie }

/-- The word that `PopWord()` returns: the low byte at SP, the high byte at the next pop address (20_memory.md R62, R64). -/
def State.topWord (s : State) : Word := word (s.memRead s.popSlot) (s.memRead s.sp)

/-- SP after `PopWord()` (20_memory.md R62, R64). -/
def State.spAfterPop (s : State) : Word := ({ s with sp := s.popSlot } : State).popSlot

/-! ### What each instruction may write -/

/-- The two addresses the next `PushWord` stores to: the high byte's, then the low byte's (20_memory.md R61, R63). -/
def State.pushSlots (s : State) : List Word := [s.pushSlot, ({ s with sp := s.pushSlot } : State).pushSlot]

/-- The general registers of a pair operand. -/
def pairRegs : Pair → List Reg8
  | .bc => [.b, .c] | .de => [.d, .e] | .hl => [.h, .l] | .sp => []

/-- The general registers of a PUSH or POP operand. -/
def stackPairRegs : StackPair → List Reg8
  | .bc => [.b, .c] | .de => [.d, .e] | .hl => [.h, .l] | .psw => [.a]

/-- The register operands that an instruction writes (the destinations of 41_move.md to 49_misc_io.md); M among them stands for
no register. -/
def regDests : Instr → List Reg8
  | .mov dst _ => [dst]
  | .mvi r _ | .inr r | .dcr r => [r]
  | .ana _ | .ani _ | .xra _ | .xri _ | .ora _ | .ori _ | .add _ | .adi _ | .adc _ | .aci _ | .sub _ | .sui _ | .sbb _
  | .sbi _ | .daa | .rlc | .rrc | .ral | .rar | .cma | .lda _ | .ldax _ | .inPort _ => [.a]
  | .lxi p _ | .inx p | .dcx p => pairRegs p
  | .dad _ | .lhld _ | .xthl => [.h, .l]
  | .xchg => [.d, .e, .h, .l]
  | .pop q => stackPairRegs q
  | .nop | .stax _ | .unrecognised _ | .shld _ | .sta _ | .stc | .cmc | .cmp _ | .rnz | .jnz _ | .jmp _ | .cnz _
  | .push _ | .rst _ | .rz | .ret | .jz _ | .cz _ | .call _ | .rnc | .jnc _ | .outPort _ | .cnc _ | .rc | .jc _ | .cc _
  | .rpo | .jpo _ | .cpo _ | .rpe | .pchl | .jpe _ | .cpe _ | .rp | .jp _ | .di | .cp _ | .rm | .sphl | .jm _ | .ei
  | .cm _ | .cpi _ => []

/-- The instructions that 10_state.md R32 lets write a bit of F. -/
def writesFlags : Instr → Bool
  | .add _ | .adi _ | .adc _ | .aci _ | .sub _ | .sui _ | .sbb _ | .sbi _ | .cmp _ | .cpi _ | .ana _ | .ani _ | .xra _
  | .xri _ | .ora _ | .ori _ | .inr _ | .dcr _ | .inx _ | .dcx _ | .dad _ | .daa | .rlc | .rrc | .ral | .rar | .stc
  | .cmc => true
  | .pop q => decide (q = .psw)
  | .nop | .lxi _ _ | .stax _ | .mvi _ _ | .unrecognised _ | .ldax _ | .shld _ | .lhld _ | .cma | .sta _ | .lda _
  | .mov _ _ | .rnz | .jnz _ | .jmp _ | .cnz _ | .push _ | .rst _ | .rz | .ret | .jz _ | .cz _ | .call _ | .rnc | .jnc _
  | .outPort _ | .cnc _ | .rc | .jc _ | .inPort _ | .cc _ | .rpo | .jpo _ | .xthl | .cpo _ | .rpe | .pchl | .jpe _
  | .xchg | .cpe _ | .rp | .jp _ | .di | .cp _ | .rm | .sphl | .jm _ | .ei | .cm _ => false

/-- The addresses an instruction stores to (20_memory.md R56), from the state its bytes have been fetched in. -/
def storeAddrs (i : Instr) (s : State) : List Word :=
  match i with
  | .mov r _ | .mvi r _ | .inr r | .dcr r => if r = .m then [s.hl] else []
  | .sta addr => [addr]
  | .stax p => [s.readIndPair p]
  | .shld addr => [addr, addr + 1]
  | .push _ | .call _ | .rst _ => s.pushSlots
  | .cnz _ => if condHolds s.f .nz then s.pushSlots else []
  | .cz _ => if condHolds s.f .z then s.pushSlots else []
  | .cnc _ => if condHolds s.f .nc then s.pushSlots else []
  | .cc _ => if condHolds s.f .c then s.pushSlots else []
  | .cpo _ => if condHolds s.f .po then s.pushSlots else []
  | .cpe _ => if condHolds s.f .pe then s.pushSlots else []
  | .cp _ => if condHolds s.f .p then s.pushSlots else []
  | .cm _ => if condHolds s.f .m then s.pushSlots else []
  | .xthl => s.popWord.2.pushSlots
  | .nop | .lxi _ _ | .inx _ | .rlc | .unrecognised _ | .dad _ | .ldax _ | .dcx _ | .rrc | .ral | .rar | .daa | .lhld _
  | .cma | .stc | .lda _ | .cmc | .add _ | .adc _ | .sub _ | .sbb _ | .ana _ | .xra _ | .ora _ | .cmp _ | .rnz | .pop _
  | .jnz _ | .jmp _ | .adi _ | .rz | .ret | .jz _ | .aci _ | .rnc | .jnc _ | .outPort _ | .sui _ | .rc | .jc _
  | .inPort _ | .sbi _ | .rpo | .jpo _ | .ani _ | .rpe | .pchl | .jpe _ | .xchg | .xri _ | .rp | .jp _ | .di | .ori _
  | .rm | .sphl | .jm _ | .ei | .cpi _ => []

/-- The instructions that overwrite pc (10_state.md R24). -/
def writesPC : Instr → Bool
  | .jmp _ | .call _ | .ret | .rst _ | .pchl | .jnz _ | .jz _ | .jnc _ | .jc _ | .jpo _ | .jpe _ | .jp _ | .jm _
  | .cnz _ | .cz _ | .cnc _ | .cc _ | .cpo _ | .cpe _ | .cp _ | .cm _ | .rnz | .rz | .rnc | .rc | .rpo | .rpe | .rp
  | .rm => true
  | .nop | .lxi _ _ | .stax _ | .inx _ | .inr _ | .dcr _ | .mvi _ _ | .rlc | .unrecognised _ | .dad _ | .ldax _ | .dcx _
  | .rrc | .ral | .rar | .shld _ | .daa | .lhld _ | .cma | .sta _ | .stc | .lda _ | .cmc | .mov _ _ | .add _ | .adc _
  | .sub _ | .sbb _ | .ana _ | .xra _ | .ora _ | .cmp _ | .pop _ | .push _ | .adi _ | .aci _ | .outPort _ | .sui _
  | .inPort _ | .sbi _ | .xthl | .ani _ | .xchg | .xri _ | .di | .ori _ | .sphl | .ei | .cpi _ => false

/-- The instructions that call `SetPointer` (20_memory.md R60). -/
def setsPointer : Instr → Bool
  | .lxi p _ | .inx p | .dcx p => decide (p = .sp)
  | .sphl => true
  | .nop | .stax _ | .inr _ | .dcr _ | .mvi _ _ | .rlc | .unrecognised _ | .dad _ | .ldax _ | .rrc | .ral | .rar
  | .shld _ | .daa | .lhld _ | .cma | .sta _ | .stc | .lda _ | .cmc | .mov _ _ | .add _ | .adc _ | .sub _ | .sbb _
  | .ana _ | .xra _ | .ora _ | .cmp _ | .rnz | .pop _ | .jnz _ | .jmp _ | .cnz _ | .push _ | .adi _ | .rst _ | .rz
  | .ret | .jz _ | .cz _ | .call _ | .aci _ | .rnc | .jnc _ | .outPort _ | .cnc _ | .sui _ | .rc | .jc _ | .inPort _
  | .cc _ | .sbi _ | .rpo | .jpo _ | .xthl | .cpo _ | .ani _ | .rpe | .pchl | .jpe _ | .xchg | .cpe _ | .xri _ | .rp
  | .jp _ | .di | .cp _ | .ori _ | .rm | .jm _ | .ei | .cm _ | .cpi _ => false

/-- The instructions that push or pop (46_stack.md, 47_branch.md, 49_misc_io.md R206). -/
def usesStack : Instr → Bool
  | .push _ | .pop _ | .call _ | .ret | .rst _ | .xthl | .cnz _ | .cz _ | .cnc _ | .cc _ | .cpo _ | .cpe _ | .cp _
  | .cm _ | .rnz | .rz | .rnc | .rc | .rpo | .rpe | .rp | .rm => true
  | .nop | .lxi _ _ | .stax _ | .inx _ | .inr _ | .dcr _ | .mvi _ _ | .rlc | .unrecognised _ | .dad _ | .ldax _ | .dcx _
  | .rrc | .ral | .rar | .shld _ | .daa | .lhld _ | .cma | .sta _ | .stc | .lda _ | .cmc | .mov _ _ | .add _ | .adc _
  | .sub _ | .sbb _ | .ana _ | .xra _ | .ora _ | .cmp _ | .jnz _ | .jmp _ | .adi _ | .jz _ | .aci _ | .jnc _
  | .outPort _ | .sui _ | .jc _ | .inPort _ | .sbi _ | .jpo _ | .ani _ | .pchl | .jpe _ | .xchg | .xri _ | .jp _ | .di
  | .ori _ | .sphl | .jm _ | .ei | .cpi _ => false

/-! ### One DRIVER action -/

/-- The next DRIVER action is `Step`, and `rest` is scheduled after it. -/
def State.StepsNext (s : State) (rest : List DriverAction) : Prop :=
  s.schedule = [] ∧ rest = [] ∨ s.schedule = .step :: rest

/-- Byte `k` of the instruction stream at pc, through the guard of 40_dispatch.md R101: 0x00 from address 0xFFFF on. -/
def State.streamByte (s : State) (k : Nat) : Byte :=
  if s.pc.toNat + k < 0xFFFF then s.memRead (s.pc + BitVec.ofNat 16 k) else 0

/-- pc after `n` fetches, which stop at 0xFFFF (40_dispatch.md R101). -/
def State.pcAfter (s : State) (n : Nat) : Word := BitVec.ofNat 16 (min (s.pc.toNat + n) 0xFFFF)

end Sys2Proof.Machine
end

