-- ==== Sys2Proof/Certificates/Slice0/Obligations.lean ====
section
/-! DEFINITION. The statements for the provers, one `def Obligations.<Name> : Prop` each. A statement about a meaning says
that `exec` answers a next state and what that state is. `exec` runs on a state whose pc has passed the instruction's bytes
(40_dispatch.md, template); `StepRunsTheFetchedInstruction` ties it to `step`. -/

open Sys2Proof Sys2Proof.Machine

/-! ### Reset and the invariant -/

/-- 70_reset_and_hazards.md R261: after reset every register, flag, device register, window register and memory byte is zero,
whatever the OPEN parameters (SHIFT and SHOFF by the spec's decision D20, INP1 and INP2 by D19, the window by D13). -/
def Obligations.ResetStateIsAllZero : Prop :=
  ∀ config : Config, ∀ s : State, s = State.resetWith config ∨ s = State.reset →
    s.a = 0 ∧ s.b = 0 ∧ s.c = 0 ∧ s.d = 0 ∧ s.e = 0 ∧ s.h = 0 ∧ s.l = 0 ∧ s.f = 0 ∧ s.pc = 0 ∧ s.sp = 0 ∧
    s.ie = false ∧ s.shift = 0 ∧ s.shoff = 0 ∧ s.inp1 = 0 ∧ s.inp2 = 0 ∧ s.wpin = false ∧ s.wmin = 0 ∧ s.wmax = 0 ∧
    ∀ x, s.memRead x = 0

/-- The invariant holds after reset, for all parameters in their range and for those of `State.reset` (logs 2 to 4). -/
def Obligations.ResetMeetsTheInvariant : Prop :=
  (∀ config : Config, config.wf = true → (State.resetWith config).Inv) ∧ State.reset.Inv

/-- Every step, whatever DRIVER action it performs (log 5), keeps the invariant: Memory stays in canonical form, SP stays on the ring of
a pinned window (20_memory.md R65, derived there), there is no window under the unbounded policy (10_state.md R36). -/
def Obligations.EveryStepKeepsTheInvariant : Prop :=
  ∀ s t, s.Inv → step s = .next t → t.Inv

/-- In canonical form, memories that read the same are the same list. -/
def Obligations.CanonicalMemoriesThatReadTheSameAreEqual : Prop :=
  ∀ m n : Memory, Memory.wf m = true → Memory.wf n = true →
    (∀ x : Word, Memory.read m x.toNat = Memory.read n x.toNat) → m = n

/-- No step stops: every instruction answers a next state in every state, and so does every DRIVER action other than
`LoadImage` (00_scope.md R11, derived there; 60_exceptions.md R220; `LoadImage` outside its precondition is refused, log 6). -/
def Obligations.NoInstructionAndNoStepStops : Prop :=
  (∀ i s, ∃ t, exec i s = .next t) ∧
    ∀ s, (∀ bytes rest, s.schedule ≠ .loadImage bytes :: rest) → ∃ t, step s = .next t

/-! ### Encoding -/

/-- Decoding the bytes of a well-formed instruction, whatever follows them, gives it back with what follows (the opcode numbers
are the spec's general knowledge, D1). -/
def Obligations.DecodeOfEncodeIsTheInstruction : Prop :=
  ∀ i : Instr, i.wf = true → ∀ rest, decode (encode i ++ rest) = .ok (i, rest)

/-- What the decoder accepts is well-formed, and its encoding is the bytes it was read from (the opcode numbers as above). -/
def Obligations.EncodeOfDecodeIsTheBytes : Prop :=
  ∀ bytes i rest, decode bytes = .ok (i, rest) → i.wf = true ∧ encode i ++ rest = bytes

/-- 30_encoding.md R80: from an opcode byte and two bytes after it the decoder reads an instruction and consumes 2 bytes for the
18 listed opcodes, 3 for the 26 listed, 1 for every other (the lists are the spec's general knowledge, D1). -/
def Obligations.FirstByteGivesTheLength : Prop :=
  ∀ op b1 b2 : Byte, ∀ rest, ∃ i, decode (op :: b1 :: b2 :: rest) = .ok (i,
    if op ∈ ([0x06, 0x0E, 0x16, 0x1E, 0x26, 0x2E, 0x36, 0x3E, 0xC6, 0xCE, 0xD3, 0xD6, 0xDB, 0xDE, 0xE6, 0xEE, 0xF6,
        0xFE] : List Byte) then b2 :: rest
    else if op ∈ ([0x01, 0x11, 0x21, 0x22, 0x2A, 0x31, 0x32, 0x3A, 0xC2, 0xC3, 0xC4, 0xCA, 0xCC, 0xCD, 0xD2, 0xD4, 0xDA,
        0xDC, 0xE2, 0xE4, 0xEA, 0xEC, 0xF2, 0xF4, 0xFA, 0xFC] : List Byte) then rest
    else b1 :: b2 :: rest)

/-- Words written out from the bit patterns of 30_encoding.md R84 (general knowledge of the spec, D1), a few families each,
decode to the instruction they stand for. -/
def Obligations.WordsWrittenOutDecode : Prop :=
  decode [0b01110011] = .ok (.mov .m .e, []) ∧
  decode [0b00010110, 0xFF] = .ok (.mvi .d 0xFF, []) ∧
  decode [0b10011110] = .ok (.sbb .m, []) ∧
  decode [0b11110101] = .ok (.push .psw, []) ∧
  decode [0b11011010, 0x34, 0x12] = .ok (.jc 0x1234, []) ∧
  decode [0b00110001, 0x00, 0x24] = .ok (.lxi .sp 0x2400, []) ∧
  decode [0b11101111] = .ok (.rst 5, []) ∧
  decode [0b01110110] = .ok (.unrecognised 0x76, [])

/-! ### Step and the instruction stream -/

/-- 40_dispatch.md R100 to R102: where the DRIVER calls `Step` and the three bytes at pc, read through the fetch guard, decode to
`i`, the step is `exec i` on the state whose pc has passed the bytes of `i` (stopping at 0xFFFF), with the cycle count
returned and `LoadImage` no longer allowed. The guard's trigger is the spec's decision D3, the recording of outputs log 7. -/
def Obligations.StepRunsTheFetchedInstruction : Prop :=
  ∀ s rest i after, s.StepsNext rest →
    decode [s.streamByte 0, s.streamByte 1, s.streamByte 2] = .ok (i, after) →
    ∃ t, exec i { s with pc := s.pcAfter (3 - after.length), schedule := rest } = .next t ∧
      step s = .next { t with returned := .cycles (t.stepCost (s.streamByte 0)), loadable := false }

/-- 40_dispatch.md R101 (b): at pc = 0xFFFF every `Step` is a NOP that leaves pc there and returns CYCLES(0x00), whatever byte
memory holds there (the trigger is the spec's decision D3; what is recorded of the return value and of `LoadImage`, logs 6, 7). -/
def Obligations.StepAtTheTopOfMemoryIsNop : Prop :=
  ∀ s rest, s.StepsNext rest → s.pc = 0xFFFF →
    step s = .next { s with schedule := rest, returned := .cycles (s.config.cycles.getD 0 1), loadable := false }

/-- `Step` returns 1 for an unrecognised opcode and CYCLES(op) for every other, by the opcode byte alone (40_dispatch.md R100,
70_reset_and_hazards.md R270, D4, D5; recorded in `returned`, log 7). Where CYCLES is as R270 allows, the number is positive, 4 or 5
for MOV, the register arithmetic, INR and DCR on a register, 7 for MOV and the arithmetic with M, and 7 or 10 for INR M, DCR M and
MVI M (R270 (d) with 90_conflicts.md C7, read as log 34 says; the opcode numbers are D1). -/
def Obligations.StepReturnsTheCostOfTheOpcode : Prop :=
  ∀ s t rest, s.StepsNext rest → step s = .next t →
    t.returned = .cycles
      (if s.streamByte 0 ∈ unrecognisedBytes then 1 else s.config.cycles.getD (s.streamByte 0).toNat 1) ∧
    (s.config.wf = true → ∀ n op, t.returned = .cycles n → op = (s.streamByte 0).toNat →
      0 < n ∧
      (0x40 ≤ op → op < 0xC0 → op ≠ 0x76 → if op % 8 = 6 ∨ op / 8 = 0x0E then n = 7 else n = 4 ∨ n = 5) ∧
      (op < 0x40 → op % 8 = 4 ∨ op % 8 = 5 → op / 8 ≠ 6 → n = 4 ∨ n = 5) ∧
      (op = 0x34 ∨ op = 0x35 ∨ op = 0x36 → n = 7 ∨ n = 10))

/-- 20_memory.md R50, R51, R53: a byte written is read back, no other byte and no other state changes, and a word access is two
byte accesses, low byte first, wrapping from 0xFFFF to 0x0000 (the wrap is derived in R53). -/
def Obligations.MemoryAccessIsByteWise : Prop :=
  ∀ (s : State) (x : Word),
    (∀ v : Byte, (s.memWrite x v).memRead x = v ∧ (∀ y, y ≠ x → (s.memWrite x v).memRead y = s.memRead y) ∧
      s.memWrite x v = { s with mem := (s.memWrite x v).mem }) ∧
    (s.memRead16 x).toNat = (s.memRead (x + 1)).toNat * 256 + (s.memRead x).toNat ∧
    ∀ w : Word, (s.memWrite16 x w).memRead x = lo8 w ∧ (s.memWrite16 x w).memRead (x + 1) = hi8 w ∧
      ∀ y, y ≠ x → y ≠ x + 1 → (s.memWrite16 x w).memRead y = s.memRead y

/-! ### Dispatch and move -/

/-- 40_dispatch.md R104, pseudocode: NOP changes nothing. The cycles that its Step returns are in
`StepReturnsTheCostOfTheOpcode`. -/
def Obligations.NopChangesNothing : Prop :=
  ∀ s, exec .nop s = .next s

/-- 40_dispatch.md R105: an unrecognised opcode emits one record (opcode, address it was fetched from) and changes nothing else,
as a meaning and as a step, which returns 1 and moves pc by one (the 13 bytes are D2, the record's content D4). -/
def Obligations.UnrecognisedOpcodeOnlyReports : Prop :=
  (∀ op s, exec (.unrecognised op) s = .next { s with diags := s.diags ++ [⟨op, s.pc - 1⟩] }) ∧
    ∀ s rest, s.StepsNext rest → s.pc ≠ 0xFFFF → s.memRead s.pc ∈ unrecognisedBytes →
      step s = .next { s with
        pc := s.pc + 1, diags := s.diags ++ [⟨s.memRead s.pc, s.pc⟩], schedule := rest, returned := .cycles 1, loadable := false }

/-- 41_move.md R110, R111: MOV and MVI write the destination operand (M: the byte at HL) and no flag. -/
def Obligations.MoveCopiesTheOperand : Prop :=
  (∀ dst src s, ∃ t, exec (.mov dst src) s = .next t ∧ WritesOperand s t dst (s.readReg src) ∧ t.f = s.f) ∧
    ∀ r v s, ∃ t, exec (.mvi r v) s = .next t ∧ WritesOperand s t r v ∧ t.f = s.f

/-! ### Logic, arithmetic, compare -/

/-- 42_logic.md R120 to R125: A takes the bitwise result; Z, S, P from it; Carry and AuxCarry cleared; nothing else changes. -/
def Obligations.LogicWritesAAndClearsCarry : Prop :=
  let logic := fun (i : Instr) (s : State) (v : Byte) (op : Bool → Bool → Bool) =>
    ∃ t, exec i s = .next t ∧ t = { s with a := t.a, f := t.f } ∧
      (∀ k, k < 8 → t.a.getLsbD k = op (s.a.getLsbD k) (v.getLsbD k)) ∧ ResultFlags s.f t.f t.a false false
  (∀ r s, logic (.ana r) s (s.readReg r) and ∧ logic (.xra r) s (s.readReg r) xor ∧ logic (.ora r) s (s.readReg r) or) ∧
    ∀ v s, logic (.ani v) s v and ∧ logic (.xri v) s v xor ∧ logic (.ori v) s v or

/-- 45_arith.md R150 to R153: A takes the sum modulo 256; Z, S, P from it; Carry and AuxCarry are the carry out of bit 7; ADC and
ACI add the old Carry; nothing else changes. -/
def Obligations.AdditionWritesASumAndFlags : Prop :=
  let adds := fun (i : Instr) (s : State) (n : Nat) =>
    ∃ t, exec i s = .next t ∧ t = { s with a := t.a, f := t.f } ∧ t.a.toNat = (s.a.toNat + n) % 256 ∧
      ResultFlags s.f t.f t.a (decide (s.a.toNat + n > 255)) (decide (s.a.toNat + n > 255))
  (∀ r s, adds (.add r) s (s.readReg r).toNat ∧ adds (.adc r) s ((s.readReg r).toNat + (flagC s.f).toNat)) ∧
    ∀ v s, adds (.adi v) s v.toNat ∧ adds (.aci v) s (v.toNat + (flagC s.f).toNat)

/-- 45_arith.md R154 to R157: A takes the difference modulo 256; Z, S, P from it; Carry and AuxCarry are the borrow; SBB and SBI
subtract the old Carry with the operand; nothing else changes. -/
def Obligations.SubtractionWritesADifferenceAndFlags : Prop :=
  let subtracts := fun (i : Instr) (s : State) (n : Nat) =>
    ∃ t, exec i s = .next t ∧ t = { s with a := t.a, f := t.f } ∧ (t.a.toNat : Int) = ((s.a.toNat : Int) - n) % 256 ∧
      ResultFlags s.f t.f t.a (decide (s.a.toNat < n)) (decide (s.a.toNat < n))
  (∀ r s, subtracts (.sub r) s (s.readReg r).toNat ∧ subtracts (.sbb r) s ((s.readReg r).toNat + (flagC s.f).toNat)) ∧
    ∀ v s, subtracts (.sui v) s v.toNat ∧ subtracts (.sbi v) s (v.toNat + (flagC s.f).toNat)

/-- 45_arith.md R158, R159: CMP and CPI set the flags of the difference, Z where A equals the operand and Carry where it is
smaller, and write nothing else. -/
def Obligations.CompareWritesFlagsOnly : Prop :=
  let compares := fun (i : Instr) (s : State) (v : Byte) =>
    ∃ t, exec i s = .next t ∧ t = { s with f := t.f } ∧ (flagZ t.f = true ↔ s.a = v) ∧
      ResultFlags s.f t.f (s.a - v) (decide (s.a.toNat < v.toNat)) (decide (s.a.toNat < v.toNat))
  (∀ r s, compares (.cmp r) s (s.readReg r)) ∧ ∀ v s, compares (.cpi v) s v

/-- 45_arith.md R161 (f) (derived there): ADD then SUB of the same operand (any but A itself) restores A, and Carry is then set
exactly where the sum passed 0xFF. -/
def Obligations.AddThenSubtractRestoresA : Prop :=
  ∀ r s, r ≠ .a → ∃ t u, exec (.add r) s = .next t ∧ exec (.sub r) t = .next u ∧ u.a = s.a ∧
    (flagC u.f = true ↔ s.a.toNat + (s.readReg r).toNat > 255)

/-- 45_arith.md R160: HL takes the 16-bit sum; Carry, and AuxCarry with it (the spec's decision D7), is the carry out of bit 15;
no other flag (D11) and nothing else changes. -/
def Obligations.DadAddsIntoHL : Prop :=
  ∀ p s, ∃ t, exec (.dad p) s = .next t ∧ t = { s with h := t.h, l := t.l, f := t.f } ∧
    t.hl.toNat = (s.hl.toNat + (s.readPair p).toNat) % 65536 ∧
    CarryFlags s.f t.f (decide (s.hl.toNat + (s.readPair p).toNat > 65535))

/-- 45_arith.md R163 (the spec's decision D10): DAA adds 6 if the low nibble passes 9 or AuxCarry is set, then 0x60 if what that
made reaches 0xA0 or Carry is set; Carry is set exactly where the total passes 0xFF; AuxCarry is the nibble carry of the
first correction, and kept where it is not made. -/
def Obligations.DaaAdjustsA : Prop :=
  ∀ s : State,
    let low := decide (s.a.toNat % 16 > 9) || flagAC s.f
    let once := s.a.toNat + (if low then 6 else 0)
    let total := once + (if decide (once ≥ 0xA0) || flagC s.f then 0x60 else 0)
    ∃ t, exec .daa s = .next t ∧ t = { s with a := t.a, f := t.f } ∧ t.a.toNat = total % 256 ∧
      ResultFlags s.f t.f t.a (decide (total > 255)) (if low then decide (s.a.toNat % 16 ≥ 10) else flagAC s.f)

/-! ### Rotates, increment, decrement -/

/-- 43_rotate.md R130 to R133: each rotate moves A by one place (left towards bit 7, by the spec's general knowledge), RAL and
RAR through Carry; Carry, and AuxCarry with it (D7), takes the bit shifted out; nothing else changes (D11). -/
def Obligations.RotatesMoveAByOnePlace : Prop :=
  let rotates := fun (i : Instr) (s : State) (bit : Nat → Bool) (out : Bool) =>
    ∃ t, exec i s = .next t ∧ t = { s with a := t.a, f := t.f } ∧ (∀ k, k < 8 → t.a.getLsbD k = bit k) ∧
      CarryFlags s.f t.f out
  ∀ s : State,
    rotates .rlc s (fun k => s.a.getLsbD ((k + 7) % 8)) (s.a.getLsbD 7) ∧
    rotates .rrc s (fun k => s.a.getLsbD ((k + 1) % 8)) (s.a.getLsbD 0) ∧
    rotates .ral s (fun k => if k = 0 then flagC s.f else s.a.getLsbD (k - 1)) (s.a.getLsbD 7) ∧
    rotates .rar s (fun k => if k = 7 then flagC s.f else s.a.getLsbD (k + 1)) (s.a.getLsbD 0)

/-- 43_rotate.md R130 to R133, corner cases: eight RLC or eight RRC in a row restore A, nine RAL or nine RAR restore A and Carry
(the last derived there). `runs i n s t`: `n` times `i` leads from `s` to `t`. -/
def Obligations.RepeatedRotatesRestoreA : Prop :=
  let runs := fun (i : Instr) (n : Nat) (s t : State) =>
    ∃ path : Nat → State, path 0 = s ∧ path n = t ∧ ∀ k, k < n → exec i (path k) = .next (path (k + 1))
  ∀ s : State,
    (∃ t, runs .rlc 8 s t ∧ t.a = s.a) ∧ (∃ t, runs .rrc 8 s t ∧ t.a = s.a) ∧
    (∃ t, runs .ral 9 s t ∧ t.a = s.a ∧ flagC t.f = flagC s.f) ∧ (∃ t, runs .rar 9 s t ∧ t.a = s.a ∧ flagC t.f = flagC s.f)

/-- 44_incdec.md R140, R141: INR and DCR write the operand (M: read and written at HL) plus or minus 1 modulo 256, with Z, S, P
from the result and Carry and AuxCarry set exactly on wraparound (the spec's decision D8). -/
def Obligations.IncrementAndDecrementAByte : Prop :=
  ∀ r s,
    (∃ t, exec (.inr r) s = .next t ∧ WritesOperand s t r (s.readReg r + 1) ∧
      ResultFlags s.f t.f (s.readReg r + 1) (decide (s.readReg r = 0xFF)) (decide (s.readReg r = 0xFF))) ∧
    (∃ t, exec (.dcr r) s = .next t ∧ WritesOperand s t r (s.readReg r - 1) ∧
      ResultFlags s.f t.f (s.readReg r - 1) (decide (s.readReg r = 0)) (decide (s.readReg r = 0)))

/-- 44_incdec.md R142, R143: INX and DCX write the pair plus or minus 1 modulo 65536 (SP through `SetPointer`), and set Carry and
AuxCarry on wraparound; otherwise no flag is written (the spec's decision D9). -/
def Obligations.IncrementAndDecrementAPair : Prop :=
  ∀ p s,
    (∃ t, exec (.inx p) s = .next t ∧ WritesPair s t p (s.readPair p + 1) ∧
      (if s.readPair p = 0xFFFF then CarryFlags s.f t.f true else t.f = s.f)) ∧
    (∃ t, exec (.dcx p) s = .next t ∧ WritesPair s t p (s.readPair p - 1) ∧
      (if s.readPair p = 0 then CarryFlags s.f t.f true else t.f = s.f))

/-! ### Stack -/

/-- 20_memory.md R61, R62: the stack moves down by one before a push and up by one after a pop; at the two ends of a pinned window
it snaps to the other end (the test for the ends is the spec's decision D13). -/
def Obligations.StackSlotsFollowThePolicy : Prop :=
  ∀ s : State,
    (s.config.stackPolicy = .unbounded ∨ s.wpin = false → s.pushSlot = s.sp - 1 ∧ s.popSlot = s.sp + 1) ∧
    (s.config.stackPolicy = .windowed → s.wpin = true →
      (s.pushSlot = if s.sp = s.wmin then s.wmax else s.sp - 1) ∧ (s.popSlot = if s.sp = s.wmax then s.wmin else s.sp + 1))

/-- 46_stack.md R170, R171: PUSH stores the pair, PSW with all eight bits of F (D6, log 19), high byte first, through the Stack
Manager; no flag (D11, log 22) and nothing else changes. -/
def Obligations.PushStoresThePair : Prop :=
  ∀ q s, s.WindowOk → ∃ t, exec (.push q) s = .next t ∧ PushesWord s t (s.readStackPair q) ∧ t.pc = s.pc ∧ t.ie = s.ie

/-- 46_stack.md R172, R173: POP loads the pair from the two bytes at the top of the stack, low byte first, the byte at SP read before
SP moves (90_conflicts.md C2, log 24), POP PSW with all eight bits of F (D6); memory and everything else stay. -/
def Obligations.PopLoadsThePair : Prop :=
  ∀ q s, ∃ t, exec (.pop q) s = .next t ∧ t.readStackPair q = s.topWord ∧ t.sp = s.spAfterPop ∧
    (∀ q', q' ≠ q → t.readStackPair q' = s.readStackPair q') ∧
    t = { s with sp := t.sp, a := t.a, f := t.f, b := t.b, c := t.c, d := t.d, e := t.e, h := t.h, l := t.l }

/-- 20_memory.md R63, R64: under the unbounded policy a push of `w` puts its high byte at SP - 1 and its low byte at SP - 2 and
leaves SP there, and a pop reads the word at SP, before SP moves (R62 by 90_conflicts.md C2, log 24), and leaves SP two higher,
modulo 65536. -/
def Obligations.UnboundedPushAndPopOfAWord : Prop :=
  ∀ (s : State) (w : Word), s.config.stackPolicy = .unbounded →
    (s.pushWord w).sp = s.sp - 2 ∧ (s.pushWord w).memRead (s.sp - 1) = hi8 w ∧ (s.pushWord w).memRead (s.sp - 2) = lo8 w ∧
    (∀ x, x ≠ s.sp - 1 → x ≠ s.sp - 2 → (s.pushWord w).memRead x = s.memRead x) ∧
    s.popWord = (word (s.memRead (s.sp + 1)) (s.memRead s.sp), { s with sp := s.sp + 2 })

/-- 46_stack.md R173, 20_memory.md R64 (derived there): PUSH of any pair followed at once by POP of any pair gives the second
pair the first one's value and restores SP, under both policies. -/
def Obligations.PushThenPopGivesTheValueBack : Prop :=
  ∀ q q' s, s.WindowOk → ∃ t u, exec (.push q) s = .next t ∧ exec (.pop q') t = .next u ∧
    u.readStackPair q' = s.readStackPair q ∧ u.sp = s.sp

/-- 46_stack.md R174, R177: CALL and RST push pc, which has passed the instruction (D29), and go to the address, 8 * n for RST n;
no flag (D11, log 22) and nothing else changes. -/
def Obligations.CallPushesTheReturnAddress : Prop :=
  (∀ addr s, s.WindowOk → ∃ t, exec (.call addr) s = .next t ∧ PushesWord s t s.pc ∧ t.pc = addr ∧ t.ie = s.ie) ∧
    ∀ n s, s.WindowOk → ∃ t, exec (.rst n) s = .next t ∧ PushesWord s t s.pc ∧ t.pc.toNat = n.toNat * 8 ∧ t.ie = s.ie

/-- 46_stack.md R175: RET takes pc from the top of the stack, the low byte from SP itself (20_memory.md R62, R64 by 90_conflicts.md
C2, log 24); no flag (D11, log 22) and nothing but pc and SP changes. -/
def Obligations.ReturnPopsThePC : Prop :=
  ∀ s, exec .ret s = .next { s with pc := s.topWord, sp := s.spAfterPop }

/-- 46_stack.md R175, R228: RET after CALL, after RST and after an accepted `RaiseInterrupt` restores pc and SP. -/
def Obligations.ReturnUndoesACall : Prop :=
  ∀ s, s.WindowOk →
    (∀ addr, ∃ t u, exec (.call addr) s = .next t ∧ exec .ret t = .next u ∧ u.pc = s.pc ∧ u.sp = s.sp) ∧
    (∀ n, ∃ t u, exec (.rst n) s = .next t ∧ exec .ret t = .next u ∧ u.pc = s.pc ∧ u.sp = s.sp) ∧
    ∀ n, s.ie = true → ∃ u, exec .ret (s.raiseInterrupt n) = .next u ∧ u.pc = s.pc ∧ u.sp = s.sp ∧ u.ie = false

/-- 20_memory.md R65 (derived there), with the source's example of 129 pushes: from any pointer set under the windowed policy, any
number of pushes keeps SP in the 256 bytes that end there, and changes no byte outside them. -/
def Obligations.WindowedPushesNeverLeaveTheWindow : Prop :=
  ∀ (s : State) (v : Word) (ws : List Word), s.config.stackPolicy = .windowed →
    let t := ws.foldl State.pushWord (s.setPointer v)
    (v - t.sp).toNat ≤ 255 ∧ ∀ x, (v - x).toNat > 255 → t.memRead x = s.memRead x

/-! ### Branches -/

/-- 47_branch.md R181, 49_misc_io.md R203: JMP and PCHL write pc, from the address operand and from HL, and no flag (D11, log 22) and
nothing else. -/
def Obligations.JumpWritesThePC : Prop :=
  (∀ addr s, ∃ t, exec (.jmp addr) s = .next t ∧ t.pc = addr ∧ { t with pc := s.pc } = s) ∧
    ∀ s, ∃ t, exec .pchl s = .next t ∧ t.pc.toNat = s.h.toNat * 256 + s.l.toNat ∧ { t with pc := s.pc } = s

/-- 47_branch.md R180, R182: each of the eight conditional jumps goes to its address exactly where its condition, one bit of F,
holds, and changes nothing but pc (the pairing of conditions and mnemonics is the spec's general knowledge). -/
def Obligations.ConditionalJumpFollowsItsFlag : Prop :=
  ∀ cond addr s, ∃ t, exec (jcc cond addr) s = .next t ∧ t = { s with pc := t.pc } ∧
    (CondTrue cond s.f → t.pc = addr) ∧ (¬CondTrue cond s.f → t.pc = s.pc)

/-- 47_branch.md R180, R183: each of the eight conditional calls is a CALL where its condition holds, and changes nothing where it
does not (the pairing as above). -/
def Obligations.ConditionalCallFollowsItsFlag : Prop :=
  ∀ cond addr s, s.WindowOk → ∃ t, exec (ccc cond addr) s = .next t ∧
    (CondTrue cond s.f → PushesWord s t s.pc ∧ t.pc = addr ∧ t.ie = s.ie) ∧ (¬CondTrue cond s.f → t = s)

/-- 47_branch.md R180, R184: each of the eight conditional returns is a RET where its condition holds, and changes nothing where
it does not (the pairing as above). -/
def Obligations.ConditionalReturnFollowsItsFlag : Prop :=
  ∀ cond s, ∃ t, exec (rcc cond) s = .next t ∧
    (CondTrue cond s.f → t = { s with pc := s.topWord, sp := s.spAfterPop }) ∧ (¬CondTrue cond s.f → t = s)

/-! ### Memory moves -/

/-- 48_memmove.md R190, R192, R194: LDA and LDAX load A, LHLD loads L and then H from the next address, modulo 65536; no flag (the
spec's decision D11) and nothing else changes. -/
def Obligations.LoadsReadMemory : Prop :=
  ∀ s : State,
    (∀ addr, ∃ t, exec (.lda addr) s = .next t ∧ t.a = s.memRead addr ∧ t = { s with a := t.a }) ∧
    (∀ p : IndPair, ∃ t, exec (.ldax p) s = .next t ∧ t.a = s.memRead (match p with | .bc => s.bc | .de => s.de) ∧
      t = { s with a := t.a }) ∧
    (∀ addr, ∃ t, exec (.lhld addr) s = .next t ∧ t.l = s.memRead addr ∧ t.h = s.memRead (addr + 1) ∧
      t = { s with h := t.h, l := t.l })

/-- 48_memmove.md R191, R193, R195: STA and STAX store A, SHLD stores L and then H at the next address, modulo 65536; every other
byte, every register and every flag (the spec's decision D11) stay. -/
def Obligations.StoresWriteMemory : Prop :=
  let stores := fun (i : Instr) (s : State) (cells : List (Word × Byte)) =>
    ∃ t, exec i s = .next t ∧ t = { s with mem := t.mem } ∧ (∀ cell ∈ cells, t.memRead cell.1 = cell.2) ∧
      ∀ x, (∀ cell ∈ cells, x ≠ cell.1) → t.memRead x = s.memRead x
  ∀ s : State,
    (∀ addr, stores (.sta addr) s [(addr, s.a)]) ∧ stores (.stax .bc) s [(s.bc, s.a)] ∧ stores (.stax .de) s [(s.de, s.a)] ∧
    (∀ addr, stores (.shld addr) s [(addr, s.l), (addr + 1, s.h)])

/-- 48_memmove.md R196, 49_misc_io.md R204: LXI writes the pair and SPHL writes SP from HL, SP through `SetPointer`, which under
the windowed policy pins the window (the spec's decisions D13, D14); no flag (D11) and nothing else changes. -/
def Obligations.LxiAndSphlWriteThePair : Prop :=
  (∀ p v s, ∃ t, exec (.lxi p v) s = .next t ∧ WritesPair s t p v ∧ t.f = s.f) ∧
    ∀ s, ∃ t, exec .sphl s = .next t ∧ WritesPair s t .sp s.hl ∧ t.f = s.f

/-! ### Miscellaneous, I/O, interrupts -/

/-- 49_misc_io.md R200 to R202, R207, R208: CMA complements A and writes no flag (D11); STC sets and CMC inverts Carry,
AuxCarry following it (the spec's decision D7); DI clears and EI sets IE at once (D22, D31); nothing else changes. -/
def Obligations.ComplementCarryAndInterruptEnable : Prop :=
  ∀ s : State,
    (∃ t, exec .cma s = .next t ∧ t.a.toNat = 255 - s.a.toNat ∧ t = { s with a := t.a }) ∧
    (∃ t, exec .stc s = .next t ∧ CarryFlags s.f t.f true ∧ t = { s with f := t.f }) ∧
    (∃ t, exec .cmc s = .next t ∧ CarryFlags s.f t.f (!flagC s.f) ∧ t = { s with f := t.f }) ∧
    (∃ t, exec .di s = .next t ∧ t.ie = false ∧ { t with ie := s.ie } = s) ∧
    (∃ t, exec .ei s = .next t ∧ t.ie = true ∧ { t with ie := s.ie } = s)

/-- 49_misc_io.md R205: XCHG swaps HL and DE; no flag (D11, log 22) and nothing else changes. -/
def Obligations.XchgSwapsHLAndDE : Prop :=
  ∀ s, ∃ t, exec .xchg s = .next t ∧ t.hl = s.de ∧ t.de = s.hl ∧
    t = { s with h := t.h, l := t.l, d := t.d, e := t.e }

/-- 49_misc_io.md R206 (the access order is the spec's decision D15): XTHL swaps HL with the word at the top of the stack, under
both policies; SP, every other byte and everything else stay. -/
def Obligations.XthlSwapsHLAndTheTopOfTheStack : Prop :=
  ∀ s, s.WindowOk → ∃ t, exec .xthl s = .next t ∧ t.hl = s.topWord ∧ t.memRead s.sp = s.l ∧ t.memRead s.popSlot = s.h ∧
    (∀ x, x ≠ s.sp → x ≠ s.popSlot → t.memRead x = s.memRead x) ∧ t = { s with h := t.h, l := t.l, mem := t.mem }

/-- 60_exceptions.md R232, R233 (and R237 by decision D17): OUT 2 takes the low 3 bits of A into SHOFF, OUT 4 takes A into the
high byte of SHIFT and its old high byte into the low one, OUT to any other port changes nothing. -/
def Obligations.OutWritesTheShifter : Prop :=
  ∀ port s, ∃ t, exec (.outPort port) s = .next t ∧ t = { s with shift := t.shift, shoff := t.shoff } ∧
    t.shoff.toNat = (if port = 2 then s.a.toNat % 8 else s.shoff.toNat) ∧
    t.shift.toNat = (if port = 4 then s.a.toNat * 256 + s.shift.toNat / 256 else s.shift.toNat)

/-- 60_exceptions.md R234, R235 (and R237 by decision D18): IN loads A from INP1, INP2, the eight bits of SHIFT from
8 - SHOFF on, or IN_OTHER of the port; nothing else changes. -/
def Obligations.InReadsThePort : Prop :=
  ∀ port s, ∃ t, exec (.inPort port) s = .next t ∧ t = { s with a := t.a } ∧
    (port = 1 → t.a = s.inp1) ∧ (port = 2 → t.a = s.inp2) ∧
    (port = 3 → ∀ k, k < 8 → t.a.getLsbD k = s.shift.getLsbD (8 - s.shoff.toNat + k)) ∧
    (port ≠ 1 → port ≠ 2 → port ≠ 3 → t.a = Memory.read s.config.inOther port.toNat)

/-- 60_exceptions.md R232 to R234: after OUT 4 of `x`, OUT 4 of `y` and OUT 2 of `n`, IN 3 gives the byte of `y:x` that lies
`n mod 8` bits below its top. -/
def Obligations.ShifterSelectsAByte : Prop :=
  ∀ (s : State) (x y n : Byte),
    ((((s.portWrite 4 x).portWrite 4 y).portWrite 2 n).portRead 3).toNat =
      (y.toNat * 256 + x.toNat) / 2 ^ (8 - n.toNat % 8) % 256

/-- 60_exceptions.md R224, R225: an accepted `RaiseInterrupt(n)` clears IE, pushes pc and goes to 8 * n; one made while IE = 0
changes nothing and leaves no trace, so EI after it gives the state EI would have given without it. In both, the DRIVER's
own schedule and what it is given back move on (logs 5, 7). -/
def Obligations.InterruptIsEnteredOrForgotten : Prop :=
  ∀ s n rest, s.schedule = .raiseInterrupt n :: rest →
    (s.WindowOk → s.ie = true → ∃ t, step s = .next t ∧ t.ie = false ∧ t.pc.toNat = 8 * n.toNat ∧ t.schedule = rest ∧
      PushesWord s { t with schedule := s.schedule, returned := s.returned } s.pc) ∧
    (s.ie = false → step s = .next { s with schedule := rest, returned := .nothing } ∧
      exec .ei (s.raiseInterrupt n) = exec .ei s)

/-- 70_reset_and_hazards.md R263: `LoadImage` before the first `Step`, of at most 65536 bytes (decision D28), stores the image
from address 0 and leaves every later byte and everything else; outside its precondition the model refuses it (log 6). -/
def Obligations.LoadImageCopiesTheImage : Prop :=
  ∀ s bytes rest, s.schedule = .loadImage bytes :: rest →
    (s.loadable = true → bytes.length ≤ 65536 → ∃ t, step s = .next t ∧
      t = { s with mem := t.mem, schedule := rest, loadable := false, returned := .nothing } ∧
      ∀ x : Word, t.memRead x = if x.toNat < bytes.length then bytes.getD x.toNat 0 else s.memRead x) ∧
    (s.loadable = false → step s = .refused .loadImageTooLate) ∧
    (s.loadable = true → 65536 < bytes.length → step s = .refused .loadImageTooLong)

/-- 60_exceptions.md R236, 20_memory.md R57: `SetInputPort` writes its input register and `ReadMemory` returns the byte; neither
changes anything else but the DRIVER's schedule (decisions D19, D25). -/
def Obligations.InputPortsAndMemoryAreOpenToTheDriver : Prop :=
  ∀ s rest,
    (∀ v, s.schedule = .setInputPort .port1 v :: rest →
      step s = .next { s with inp1 := v, schedule := rest, returned := .nothing }) ∧
    (∀ v, s.schedule = .setInputPort .port2 v :: rest →
      step s = .next { s with inp2 := v, schedule := rest, returned := .nothing }) ∧
    (∀ x, s.schedule = .readMemory x :: rest → step s = .next { s with schedule := rest, returned := .byte (s.memRead x) })

/-! ### Rules over all instructions -/

/-- Register frame of every instruction: a general register that is not among its destinations keeps its value. -/
def Obligations.OnlyDestinationRegistersChange : Prop :=
  ∀ i s t, exec i s = .next t → ∀ r, r ≠ .m → r ∉ regDests i → t.readReg r = s.readReg r

/-- Memory frame of every instruction: a byte outside the addresses it stores to (20_memory.md R56) reads as before; for an
instruction that stores nothing, every byte does. -/
def Obligations.OnlyStoredBytesChange : Prop :=
  ∀ i s t, exec i s = .next t → ∀ x, x ∉ storeAddrs i s → t.memRead x = s.memRead x

/-- Flag frame of every instruction: F changes only by the instructions that 10_state.md R32 lists (D11 for most of the others);
bits 1, 3 and 4 only by POP PSW (10_state.md R27, decision D6). -/
def Obligations.OnlyFlagInstructionsWriteF : Prop :=
  ∀ i s t, exec i s = .next t →
    (writesFlags i = false → t.f = s.f) ∧
    (i ≠ .pop .psw → ∀ k, k = 1 ∨ k = 3 ∨ k = 4 → t.f.getLsbD k = s.f.getLsbD k)

/-- 10_state.md R29 (scope of the coupling: decision D7): AuxCarry equals Carry after every instruction but DAA and POP PSW that
changes either of them, so it stays equal to Carry along every run without these two. -/
def Obligations.AuxCarryFollowsCarry : Prop :=
  ∀ i s t, exec i s = .next t → i ≠ .daa → i ≠ .pop .psw →
    flagC t.f = flagC s.f ∧ flagAC t.f = flagAC s.f ∨ flagAC t.f = flagC t.f

/-- pc and SP frame of every instruction: pc changes only by the transfers that 10_state.md R24 lists, SP only by the callers of
`SetPointer` and the pushes and pops (R25), the window only by the callers of `SetPointer` (decision D14). -/
def Obligations.OnlyTransfersWritePCAndOnlyTheStackManagerWritesSP : Prop :=
  ∀ i s t, exec i s = .next t →
    (writesPC i = false → t.pc = s.pc) ∧
    (setsPointer i = false → usesStack i = false → t.sp = s.sp) ∧
    (setsPointer i = false → t.wpin = s.wpin ∧ t.wmin = s.wmin ∧ t.wmax = s.wmax)

/-- System frame of every instruction (10_state.md R33 to R35): IE changes only by EI and DI, SHOFF only by OUT 2, SHIFT only by
OUT 4; no instruction writes INP1 or INP2, a parameter, or the model's own record of the DRIVER; only an unrecognised
opcode adds a diagnostic. -/
def Obligations.OnlyTheirInstructionsWriteSystemState : Prop :=
  ∀ i s t, exec i s = .next t →
    (i ≠ .ei → i ≠ .di → t.ie = s.ie) ∧ (i ≠ .outPort 2 → t.shoff = s.shoff) ∧ (i ≠ .outPort 4 → t.shift = s.shift) ∧
    t.inp1 = s.inp1 ∧ t.inp2 = s.inp2 ∧ t.config = s.config ∧ t.schedule = s.schedule ∧ t.loadable = s.loadable ∧
    t.returned = s.returned ∧ ((∀ op, i ≠ .unrecognised op) → t.diags = s.diags)

/-- 10_state.md R33, R39: IE is read by `RaiseInterrupt` only. An instruction other than EI and DI does the same whatever IE is,
and leaves it. -/
def Obligations.NoInstructionReadsIE : Prop :=
  ∀ i s t b, exec i s = .next t → i ≠ .ei → i ≠ .di → exec i { s with ie := b } = .next { t with ie := b }

/-- AuxCarry is consumed by DAA only (00_scope.md glossary, Flag), and seen through PUSH PSW: any other instruction makes the same
of two states that differ in bit 2 of F, up to F. -/
def Obligations.OnlyDaaAndPushPswReadAuxCarry : Prop :=
  ∀ i s t g, exec i s = .next t → i ≠ .daa → i ≠ .push .psw → (∀ k, k ≠ 2 → g.getLsbD k = s.f.getLsbD k) →
    ∃ u, exec i { s with f := g } = .next u ∧ u = { t with f := u.f } ∧ ∀ k, k ≠ 2 → u.f.getLsbD k = t.f.getLsbD k
end

