-- ==== Sys2Proof/Laws/State.lean ====
section
/-! SUPPORT. One lemma per field for each operation that updates the state: what the operation leaves alone, and the new
value of a field it always writes. A plain record update `{ s with x := v }` needs none: simp reduces its projections. -/

namespace Sys2Proof.Machine.State

variable (s : State)

/-! `memWrite` writes mem. -/

@[simp] theorem memWrite_a (x : Word) (v : Byte) : (s.memWrite x v).a = s.a := rfl
@[simp] theorem memWrite_b (x : Word) (v : Byte) : (s.memWrite x v).b = s.b := rfl
@[simp] theorem memWrite_c (x : Word) (v : Byte) : (s.memWrite x v).c = s.c := rfl
@[simp] theorem memWrite_d (x : Word) (v : Byte) : (s.memWrite x v).d = s.d := rfl
@[simp] theorem memWrite_e (x : Word) (v : Byte) : (s.memWrite x v).e = s.e := rfl
@[simp] theorem memWrite_h (x : Word) (v : Byte) : (s.memWrite x v).h = s.h := rfl
@[simp] theorem memWrite_l (x : Word) (v : Byte) : (s.memWrite x v).l = s.l := rfl
@[simp] theorem memWrite_f (x : Word) (v : Byte) : (s.memWrite x v).f = s.f := rfl
@[simp] theorem memWrite_pc (x : Word) (v : Byte) : (s.memWrite x v).pc = s.pc := rfl
@[simp] theorem memWrite_sp (x : Word) (v : Byte) : (s.memWrite x v).sp = s.sp := rfl
@[simp] theorem memWrite_mem (x : Word) (v : Byte) : (s.memWrite x v).mem = Memory.write s.mem x.toNat v := rfl
@[simp] theorem memWrite_ie (x : Word) (v : Byte) : (s.memWrite x v).ie = s.ie := rfl
@[simp] theorem memWrite_shift (x : Word) (v : Byte) : (s.memWrite x v).shift = s.shift := rfl
@[simp] theorem memWrite_shoff (x : Word) (v : Byte) : (s.memWrite x v).shoff = s.shoff := rfl
@[simp] theorem memWrite_inp1 (x : Word) (v : Byte) : (s.memWrite x v).inp1 = s.inp1 := rfl
@[simp] theorem memWrite_inp2 (x : Word) (v : Byte) : (s.memWrite x v).inp2 = s.inp2 := rfl
@[simp] theorem memWrite_wpin (x : Word) (v : Byte) : (s.memWrite x v).wpin = s.wpin := rfl
@[simp] theorem memWrite_wmin (x : Word) (v : Byte) : (s.memWrite x v).wmin = s.wmin := rfl
@[simp] theorem memWrite_wmax (x : Word) (v : Byte) : (s.memWrite x v).wmax = s.wmax := rfl
@[simp] theorem memWrite_config (x : Word) (v : Byte) : (s.memWrite x v).config = s.config := rfl
@[simp] theorem memWrite_schedule (x : Word) (v : Byte) : (s.memWrite x v).schedule = s.schedule := rfl
@[simp] theorem memWrite_loadable (x : Word) (v : Byte) : (s.memWrite x v).loadable = s.loadable := rfl
@[simp] theorem memWrite_returned (x : Word) (v : Byte) : (s.memWrite x v).returned = s.returned := rfl
@[simp] theorem memWrite_diags (x : Word) (v : Byte) : (s.memWrite x v).diags = s.diags := rfl

/-! `setPointer` writes sp, wpin, wmin, wmax. -/

@[simp] theorem setPointer_a (v : Word) : (s.setPointer v).a = s.a := by unfold setPointer; split <;> rfl
@[simp] theorem setPointer_b (v : Word) : (s.setPointer v).b = s.b := by unfold setPointer; split <;> rfl
@[simp] theorem setPointer_c (v : Word) : (s.setPointer v).c = s.c := by unfold setPointer; split <;> rfl
@[simp] theorem setPointer_d (v : Word) : (s.setPointer v).d = s.d := by unfold setPointer; split <;> rfl
@[simp] theorem setPointer_e (v : Word) : (s.setPointer v).e = s.e := by unfold setPointer; split <;> rfl
@[simp] theorem setPointer_h (v : Word) : (s.setPointer v).h = s.h := by unfold setPointer; split <;> rfl
@[simp] theorem setPointer_l (v : Word) : (s.setPointer v).l = s.l := by unfold setPointer; split <;> rfl
@[simp] theorem setPointer_f (v : Word) : (s.setPointer v).f = s.f := by unfold setPointer; split <;> rfl
@[simp] theorem setPointer_pc (v : Word) : (s.setPointer v).pc = s.pc := by unfold setPointer; split <;> rfl
@[simp] theorem setPointer_sp (v : Word) : (s.setPointer v).sp = v := by unfold setPointer; split <;> rfl
@[simp] theorem setPointer_mem (v : Word) : (s.setPointer v).mem = s.mem := by unfold setPointer; split <;> rfl
@[simp] theorem setPointer_ie (v : Word) : (s.setPointer v).ie = s.ie := by unfold setPointer; split <;> rfl
@[simp] theorem setPointer_shift (v : Word) : (s.setPointer v).shift = s.shift := by unfold setPointer; split <;> rfl
@[simp] theorem setPointer_shoff (v : Word) : (s.setPointer v).shoff = s.shoff := by unfold setPointer; split <;> rfl
@[simp] theorem setPointer_inp1 (v : Word) : (s.setPointer v).inp1 = s.inp1 := by unfold setPointer; split <;> rfl
@[simp] theorem setPointer_inp2 (v : Word) : (s.setPointer v).inp2 = s.inp2 := by unfold setPointer; split <;> rfl
@[simp] theorem setPointer_config (v : Word) : (s.setPointer v).config = s.config := by unfold setPointer; split <;> rfl
@[simp] theorem setPointer_schedule (v : Word) : (s.setPointer v).schedule = s.schedule := by unfold setPointer; split <;> rfl
@[simp] theorem setPointer_loadable (v : Word) : (s.setPointer v).loadable = s.loadable := by unfold setPointer; split <;> rfl
@[simp] theorem setPointer_returned (v : Word) : (s.setPointer v).returned = s.returned := by unfold setPointer; split <;> rfl
@[simp] theorem setPointer_diags (v : Word) : (s.setPointer v).diags = s.diags := by unfold setPointer; split <;> rfl

/-! `pushByte` writes sp, mem. -/

@[simp] theorem pushByte_a (v : Byte) : (s.pushByte v).a = s.a := rfl
@[simp] theorem pushByte_b (v : Byte) : (s.pushByte v).b = s.b := rfl
@[simp] theorem pushByte_c (v : Byte) : (s.pushByte v).c = s.c := rfl
@[simp] theorem pushByte_d (v : Byte) : (s.pushByte v).d = s.d := rfl
@[simp] theorem pushByte_e (v : Byte) : (s.pushByte v).e = s.e := rfl
@[simp] theorem pushByte_h (v : Byte) : (s.pushByte v).h = s.h := rfl
@[simp] theorem pushByte_l (v : Byte) : (s.pushByte v).l = s.l := rfl
@[simp] theorem pushByte_f (v : Byte) : (s.pushByte v).f = s.f := rfl
@[simp] theorem pushByte_pc (v : Byte) : (s.pushByte v).pc = s.pc := rfl
@[simp] theorem pushByte_sp (v : Byte) : (s.pushByte v).sp = s.pushSlot := rfl
@[simp] theorem pushByte_mem (v : Byte) : (s.pushByte v).mem = Memory.write s.mem s.pushSlot.toNat v := rfl
@[simp] theorem pushByte_ie (v : Byte) : (s.pushByte v).ie = s.ie := rfl
@[simp] theorem pushByte_shift (v : Byte) : (s.pushByte v).shift = s.shift := rfl
@[simp] theorem pushByte_shoff (v : Byte) : (s.pushByte v).shoff = s.shoff := rfl
@[simp] theorem pushByte_inp1 (v : Byte) : (s.pushByte v).inp1 = s.inp1 := rfl
@[simp] theorem pushByte_inp2 (v : Byte) : (s.pushByte v).inp2 = s.inp2 := rfl
@[simp] theorem pushByte_wpin (v : Byte) : (s.pushByte v).wpin = s.wpin := rfl
@[simp] theorem pushByte_wmin (v : Byte) : (s.pushByte v).wmin = s.wmin := rfl
@[simp] theorem pushByte_wmax (v : Byte) : (s.pushByte v).wmax = s.wmax := rfl
@[simp] theorem pushByte_config (v : Byte) : (s.pushByte v).config = s.config := rfl
@[simp] theorem pushByte_schedule (v : Byte) : (s.pushByte v).schedule = s.schedule := rfl
@[simp] theorem pushByte_loadable (v : Byte) : (s.pushByte v).loadable = s.loadable := rfl
@[simp] theorem pushByte_returned (v : Byte) : (s.pushByte v).returned = s.returned := rfl
@[simp] theorem pushByte_diags (v : Byte) : (s.pushByte v).diags = s.diags := rfl

/-! `popByte` writes sp. -/

@[simp] theorem popByte_a : s.popByte.2.a = s.a := rfl
@[simp] theorem popByte_b : s.popByte.2.b = s.b := rfl
@[simp] theorem popByte_c : s.popByte.2.c = s.c := rfl
@[simp] theorem popByte_d : s.popByte.2.d = s.d := rfl
@[simp] theorem popByte_e : s.popByte.2.e = s.e := rfl
@[simp] theorem popByte_h : s.popByte.2.h = s.h := rfl
@[simp] theorem popByte_l : s.popByte.2.l = s.l := rfl
@[simp] theorem popByte_f : s.popByte.2.f = s.f := rfl
@[simp] theorem popByte_pc : s.popByte.2.pc = s.pc := rfl
@[simp] theorem popByte_sp : s.popByte.2.sp = s.popSlot := rfl
@[simp] theorem popByte_mem : s.popByte.2.mem = s.mem := rfl
@[simp] theorem popByte_ie : s.popByte.2.ie = s.ie := rfl
@[simp] theorem popByte_shift : s.popByte.2.shift = s.shift := rfl
@[simp] theorem popByte_shoff : s.popByte.2.shoff = s.shoff := rfl
@[simp] theorem popByte_inp1 : s.popByte.2.inp1 = s.inp1 := rfl
@[simp] theorem popByte_inp2 : s.popByte.2.inp2 = s.inp2 := rfl
@[simp] theorem popByte_wpin : s.popByte.2.wpin = s.wpin := rfl
@[simp] theorem popByte_wmin : s.popByte.2.wmin = s.wmin := rfl
@[simp] theorem popByte_wmax : s.popByte.2.wmax = s.wmax := rfl
@[simp] theorem popByte_config : s.popByte.2.config = s.config := rfl
@[simp] theorem popByte_schedule : s.popByte.2.schedule = s.schedule := rfl
@[simp] theorem popByte_loadable : s.popByte.2.loadable = s.loadable := rfl
@[simp] theorem popByte_returned : s.popByte.2.returned = s.returned := rfl
@[simp] theorem popByte_diags : s.popByte.2.diags = s.diags := rfl

/-! `pushWord` writes sp, mem. -/

@[simp] theorem pushWord_a (w : Word) : (s.pushWord w).a = s.a := rfl
@[simp] theorem pushWord_b (w : Word) : (s.pushWord w).b = s.b := rfl
@[simp] theorem pushWord_c (w : Word) : (s.pushWord w).c = s.c := rfl
@[simp] theorem pushWord_d (w : Word) : (s.pushWord w).d = s.d := rfl
@[simp] theorem pushWord_e (w : Word) : (s.pushWord w).e = s.e := rfl
@[simp] theorem pushWord_h (w : Word) : (s.pushWord w).h = s.h := rfl
@[simp] theorem pushWord_l (w : Word) : (s.pushWord w).l = s.l := rfl
@[simp] theorem pushWord_f (w : Word) : (s.pushWord w).f = s.f := rfl
@[simp] theorem pushWord_pc (w : Word) : (s.pushWord w).pc = s.pc := rfl
@[simp] theorem pushWord_ie (w : Word) : (s.pushWord w).ie = s.ie := rfl
@[simp] theorem pushWord_shift (w : Word) : (s.pushWord w).shift = s.shift := rfl
@[simp] theorem pushWord_shoff (w : Word) : (s.pushWord w).shoff = s.shoff := rfl
@[simp] theorem pushWord_inp1 (w : Word) : (s.pushWord w).inp1 = s.inp1 := rfl
@[simp] theorem pushWord_inp2 (w : Word) : (s.pushWord w).inp2 = s.inp2 := rfl
@[simp] theorem pushWord_wpin (w : Word) : (s.pushWord w).wpin = s.wpin := rfl
@[simp] theorem pushWord_wmin (w : Word) : (s.pushWord w).wmin = s.wmin := rfl
@[simp] theorem pushWord_wmax (w : Word) : (s.pushWord w).wmax = s.wmax := rfl
@[simp] theorem pushWord_config (w : Word) : (s.pushWord w).config = s.config := rfl
@[simp] theorem pushWord_schedule (w : Word) : (s.pushWord w).schedule = s.schedule := rfl
@[simp] theorem pushWord_loadable (w : Word) : (s.pushWord w).loadable = s.loadable := rfl
@[simp] theorem pushWord_returned (w : Word) : (s.pushWord w).returned = s.returned := rfl
@[simp] theorem pushWord_diags (w : Word) : (s.pushWord w).diags = s.diags := rfl

/-! `popWord` writes sp. -/

@[simp] theorem popWord_a : s.popWord.2.a = s.a := rfl
@[simp] theorem popWord_b : s.popWord.2.b = s.b := rfl
@[simp] theorem popWord_c : s.popWord.2.c = s.c := rfl
@[simp] theorem popWord_d : s.popWord.2.d = s.d := rfl
@[simp] theorem popWord_e : s.popWord.2.e = s.e := rfl
@[simp] theorem popWord_h : s.popWord.2.h = s.h := rfl
@[simp] theorem popWord_l : s.popWord.2.l = s.l := rfl
@[simp] theorem popWord_f : s.popWord.2.f = s.f := rfl
@[simp] theorem popWord_pc : s.popWord.2.pc = s.pc := rfl
@[simp] theorem popWord_mem : s.popWord.2.mem = s.mem := rfl
@[simp] theorem popWord_ie : s.popWord.2.ie = s.ie := rfl
@[simp] theorem popWord_shift : s.popWord.2.shift = s.shift := rfl
@[simp] theorem popWord_shoff : s.popWord.2.shoff = s.shoff := rfl
@[simp] theorem popWord_inp1 : s.popWord.2.inp1 = s.inp1 := rfl
@[simp] theorem popWord_inp2 : s.popWord.2.inp2 = s.inp2 := rfl
@[simp] theorem popWord_wpin : s.popWord.2.wpin = s.wpin := rfl
@[simp] theorem popWord_wmin : s.popWord.2.wmin = s.wmin := rfl
@[simp] theorem popWord_wmax : s.popWord.2.wmax = s.wmax := rfl
@[simp] theorem popWord_config : s.popWord.2.config = s.config := rfl
@[simp] theorem popWord_schedule : s.popWord.2.schedule = s.schedule := rfl
@[simp] theorem popWord_loadable : s.popWord.2.loadable = s.loadable := rfl
@[simp] theorem popWord_returned : s.popWord.2.returned = s.returned := rfl
@[simp] theorem popWord_diags : s.popWord.2.diags = s.diags := rfl

/-! `jump` writes pc. -/

@[simp] theorem jump_a (x : Word) : (s.jump x).a = s.a := rfl
@[simp] theorem jump_b (x : Word) : (s.jump x).b = s.b := rfl
@[simp] theorem jump_c (x : Word) : (s.jump x).c = s.c := rfl
@[simp] theorem jump_d (x : Word) : (s.jump x).d = s.d := rfl
@[simp] theorem jump_e (x : Word) : (s.jump x).e = s.e := rfl
@[simp] theorem jump_h (x : Word) : (s.jump x).h = s.h := rfl
@[simp] theorem jump_l (x : Word) : (s.jump x).l = s.l := rfl
@[simp] theorem jump_f (x : Word) : (s.jump x).f = s.f := rfl
@[simp] theorem jump_pc (x : Word) : (s.jump x).pc = x := rfl
@[simp] theorem jump_sp (x : Word) : (s.jump x).sp = s.sp := rfl
@[simp] theorem jump_mem (x : Word) : (s.jump x).mem = s.mem := rfl
@[simp] theorem jump_ie (x : Word) : (s.jump x).ie = s.ie := rfl
@[simp] theorem jump_shift (x : Word) : (s.jump x).shift = s.shift := rfl
@[simp] theorem jump_shoff (x : Word) : (s.jump x).shoff = s.shoff := rfl
@[simp] theorem jump_inp1 (x : Word) : (s.jump x).inp1 = s.inp1 := rfl
@[simp] theorem jump_inp2 (x : Word) : (s.jump x).inp2 = s.inp2 := rfl
@[simp] theorem jump_wpin (x : Word) : (s.jump x).wpin = s.wpin := rfl
@[simp] theorem jump_wmin (x : Word) : (s.jump x).wmin = s.wmin := rfl
@[simp] theorem jump_wmax (x : Word) : (s.jump x).wmax = s.wmax := rfl
@[simp] theorem jump_config (x : Word) : (s.jump x).config = s.config := rfl
@[simp] theorem jump_schedule (x : Word) : (s.jump x).schedule = s.schedule := rfl
@[simp] theorem jump_loadable (x : Word) : (s.jump x).loadable = s.loadable := rfl
@[simp] theorem jump_returned (x : Word) : (s.jump x).returned = s.returned := rfl
@[simp] theorem jump_diags (x : Word) : (s.jump x).diags = s.diags := rfl

/-! `callTo` writes sp, mem, pc. -/

@[simp] theorem callTo_a (x : Word) : (s.callTo x).a = s.a := rfl
@[simp] theorem callTo_b (x : Word) : (s.callTo x).b = s.b := rfl
@[simp] theorem callTo_c (x : Word) : (s.callTo x).c = s.c := rfl
@[simp] theorem callTo_d (x : Word) : (s.callTo x).d = s.d := rfl
@[simp] theorem callTo_e (x : Word) : (s.callTo x).e = s.e := rfl
@[simp] theorem callTo_h (x : Word) : (s.callTo x).h = s.h := rfl
@[simp] theorem callTo_l (x : Word) : (s.callTo x).l = s.l := rfl
@[simp] theorem callTo_f (x : Word) : (s.callTo x).f = s.f := rfl
@[simp] theorem callTo_pc (x : Word) : (s.callTo x).pc = x := rfl
@[simp] theorem callTo_ie (x : Word) : (s.callTo x).ie = s.ie := rfl
@[simp] theorem callTo_shift (x : Word) : (s.callTo x).shift = s.shift := rfl
@[simp] theorem callTo_shoff (x : Word) : (s.callTo x).shoff = s.shoff := rfl
@[simp] theorem callTo_inp1 (x : Word) : (s.callTo x).inp1 = s.inp1 := rfl
@[simp] theorem callTo_inp2 (x : Word) : (s.callTo x).inp2 = s.inp2 := rfl
@[simp] theorem callTo_wpin (x : Word) : (s.callTo x).wpin = s.wpin := rfl
@[simp] theorem callTo_wmin (x : Word) : (s.callTo x).wmin = s.wmin := rfl
@[simp] theorem callTo_wmax (x : Word) : (s.callTo x).wmax = s.wmax := rfl
@[simp] theorem callTo_config (x : Word) : (s.callTo x).config = s.config := rfl
@[simp] theorem callTo_schedule (x : Word) : (s.callTo x).schedule = s.schedule := rfl
@[simp] theorem callTo_loadable (x : Word) : (s.callTo x).loadable = s.loadable := rfl
@[simp] theorem callTo_returned (x : Word) : (s.callTo x).returned = s.returned := rfl
@[simp] theorem callTo_diags (x : Word) : (s.callTo x).diags = s.diags := rfl

/-! `returnPC` writes sp, pc. -/

@[simp] theorem returnPC_a : s.returnPC.a = s.a := rfl
@[simp] theorem returnPC_b : s.returnPC.b = s.b := rfl
@[simp] theorem returnPC_c : s.returnPC.c = s.c := rfl
@[simp] theorem returnPC_d : s.returnPC.d = s.d := rfl
@[simp] theorem returnPC_e : s.returnPC.e = s.e := rfl
@[simp] theorem returnPC_h : s.returnPC.h = s.h := rfl
@[simp] theorem returnPC_l : s.returnPC.l = s.l := rfl
@[simp] theorem returnPC_f : s.returnPC.f = s.f := rfl
@[simp] theorem returnPC_pc : s.returnPC.pc = s.popWord.1 := rfl
@[simp] theorem returnPC_mem : s.returnPC.mem = s.mem := rfl
@[simp] theorem returnPC_ie : s.returnPC.ie = s.ie := rfl
@[simp] theorem returnPC_shift : s.returnPC.shift = s.shift := rfl
@[simp] theorem returnPC_shoff : s.returnPC.shoff = s.shoff := rfl
@[simp] theorem returnPC_inp1 : s.returnPC.inp1 = s.inp1 := rfl
@[simp] theorem returnPC_inp2 : s.returnPC.inp2 = s.inp2 := rfl
@[simp] theorem returnPC_wpin : s.returnPC.wpin = s.wpin := rfl
@[simp] theorem returnPC_wmin : s.returnPC.wmin = s.wmin := rfl
@[simp] theorem returnPC_wmax : s.returnPC.wmax = s.wmax := rfl
@[simp] theorem returnPC_config : s.returnPC.config = s.config := rfl
@[simp] theorem returnPC_schedule : s.returnPC.schedule = s.schedule := rfl
@[simp] theorem returnPC_loadable : s.returnPC.loadable = s.loadable := rfl
@[simp] theorem returnPC_returned : s.returnPC.returned = s.returned := rfl
@[simp] theorem returnPC_diags : s.returnPC.diags = s.diags := rfl

/-! `raiseInterrupt` writes ie, sp, mem, pc. -/

@[simp] theorem raiseInterrupt_a (n : BitVec 3) : (s.raiseInterrupt n).a = s.a := by unfold raiseInterrupt; split <;> rfl
@[simp] theorem raiseInterrupt_b (n : BitVec 3) : (s.raiseInterrupt n).b = s.b := by unfold raiseInterrupt; split <;> rfl
@[simp] theorem raiseInterrupt_c (n : BitVec 3) : (s.raiseInterrupt n).c = s.c := by unfold raiseInterrupt; split <;> rfl
@[simp] theorem raiseInterrupt_d (n : BitVec 3) : (s.raiseInterrupt n).d = s.d := by unfold raiseInterrupt; split <;> rfl
@[simp] theorem raiseInterrupt_e (n : BitVec 3) : (s.raiseInterrupt n).e = s.e := by unfold raiseInterrupt; split <;> rfl
@[simp] theorem raiseInterrupt_h (n : BitVec 3) : (s.raiseInterrupt n).h = s.h := by unfold raiseInterrupt; split <;> rfl
@[simp] theorem raiseInterrupt_l (n : BitVec 3) : (s.raiseInterrupt n).l = s.l := by unfold raiseInterrupt; split <;> rfl
@[simp] theorem raiseInterrupt_f (n : BitVec 3) : (s.raiseInterrupt n).f = s.f := by unfold raiseInterrupt; split <;> rfl
@[simp] theorem raiseInterrupt_shift (n : BitVec 3) : (s.raiseInterrupt n).shift = s.shift := by unfold raiseInterrupt; split <;> rfl
@[simp] theorem raiseInterrupt_shoff (n : BitVec 3) : (s.raiseInterrupt n).shoff = s.shoff := by unfold raiseInterrupt; split <;> rfl
@[simp] theorem raiseInterrupt_inp1 (n : BitVec 3) : (s.raiseInterrupt n).inp1 = s.inp1 := by unfold raiseInterrupt; split <;> rfl
@[simp] theorem raiseInterrupt_inp2 (n : BitVec 3) : (s.raiseInterrupt n).inp2 = s.inp2 := by unfold raiseInterrupt; split <;> rfl
@[simp] theorem raiseInterrupt_wpin (n : BitVec 3) : (s.raiseInterrupt n).wpin = s.wpin := by unfold raiseInterrupt; split <;> rfl
@[simp] theorem raiseInterrupt_wmin (n : BitVec 3) : (s.raiseInterrupt n).wmin = s.wmin := by unfold raiseInterrupt; split <;> rfl
@[simp] theorem raiseInterrupt_wmax (n : BitVec 3) : (s.raiseInterrupt n).wmax = s.wmax := by unfold raiseInterrupt; split <;> rfl
@[simp] theorem raiseInterrupt_config (n : BitVec 3) : (s.raiseInterrupt n).config = s.config := by unfold raiseInterrupt; split <;> rfl
@[simp] theorem raiseInterrupt_schedule (n : BitVec 3) : (s.raiseInterrupt n).schedule = s.schedule := by unfold raiseInterrupt; split <;> rfl
@[simp] theorem raiseInterrupt_loadable (n : BitVec 3) : (s.raiseInterrupt n).loadable = s.loadable := by unfold raiseInterrupt; split <;> rfl
@[simp] theorem raiseInterrupt_returned (n : BitVec 3) : (s.raiseInterrupt n).returned = s.returned := by unfold raiseInterrupt; split <;> rfl
@[simp] theorem raiseInterrupt_diags (n : BitVec 3) : (s.raiseInterrupt n).diags = s.diags := by unfold raiseInterrupt; split <;> rfl

/-! `fetch8` writes pc. -/

@[simp] theorem fetch8_a : s.fetch8.2.a = s.a := by unfold fetch8; split <;> rfl
@[simp] theorem fetch8_b : s.fetch8.2.b = s.b := by unfold fetch8; split <;> rfl
@[simp] theorem fetch8_c : s.fetch8.2.c = s.c := by unfold fetch8; split <;> rfl
@[simp] theorem fetch8_d : s.fetch8.2.d = s.d := by unfold fetch8; split <;> rfl
@[simp] theorem fetch8_e : s.fetch8.2.e = s.e := by unfold fetch8; split <;> rfl
@[simp] theorem fetch8_h : s.fetch8.2.h = s.h := by unfold fetch8; split <;> rfl
@[simp] theorem fetch8_l : s.fetch8.2.l = s.l := by unfold fetch8; split <;> rfl
@[simp] theorem fetch8_f : s.fetch8.2.f = s.f := by unfold fetch8; split <;> rfl
@[simp] theorem fetch8_sp : s.fetch8.2.sp = s.sp := by unfold fetch8; split <;> rfl
@[simp] theorem fetch8_mem : s.fetch8.2.mem = s.mem := by unfold fetch8; split <;> rfl
@[simp] theorem fetch8_ie : s.fetch8.2.ie = s.ie := by unfold fetch8; split <;> rfl
@[simp] theorem fetch8_shift : s.fetch8.2.shift = s.shift := by unfold fetch8; split <;> rfl
@[simp] theorem fetch8_shoff : s.fetch8.2.shoff = s.shoff := by unfold fetch8; split <;> rfl
@[simp] theorem fetch8_inp1 : s.fetch8.2.inp1 = s.inp1 := by unfold fetch8; split <;> rfl
@[simp] theorem fetch8_inp2 : s.fetch8.2.inp2 = s.inp2 := by unfold fetch8; split <;> rfl
@[simp] theorem fetch8_wpin : s.fetch8.2.wpin = s.wpin := by unfold fetch8; split <;> rfl
@[simp] theorem fetch8_wmin : s.fetch8.2.wmin = s.wmin := by unfold fetch8; split <;> rfl
@[simp] theorem fetch8_wmax : s.fetch8.2.wmax = s.wmax := by unfold fetch8; split <;> rfl
@[simp] theorem fetch8_config : s.fetch8.2.config = s.config := by unfold fetch8; split <;> rfl
@[simp] theorem fetch8_schedule : s.fetch8.2.schedule = s.schedule := by unfold fetch8; split <;> rfl
@[simp] theorem fetch8_loadable : s.fetch8.2.loadable = s.loadable := by unfold fetch8; split <;> rfl
@[simp] theorem fetch8_returned : s.fetch8.2.returned = s.returned := by unfold fetch8; split <;> rfl
@[simp] theorem fetch8_diags : s.fetch8.2.diags = s.diags := by unfold fetch8; split <;> rfl

/-! `portWrite` writes shift, shoff. -/

@[simp] theorem portWrite_a (p v : Byte) : (s.portWrite p v).a = s.a := by unfold portWrite; split <;> [rfl; (split <;> rfl)]
@[simp] theorem portWrite_b (p v : Byte) : (s.portWrite p v).b = s.b := by unfold portWrite; split <;> [rfl; (split <;> rfl)]
@[simp] theorem portWrite_c (p v : Byte) : (s.portWrite p v).c = s.c := by unfold portWrite; split <;> [rfl; (split <;> rfl)]
@[simp] theorem portWrite_d (p v : Byte) : (s.portWrite p v).d = s.d := by unfold portWrite; split <;> [rfl; (split <;> rfl)]
@[simp] theorem portWrite_e (p v : Byte) : (s.portWrite p v).e = s.e := by unfold portWrite; split <;> [rfl; (split <;> rfl)]
@[simp] theorem portWrite_h (p v : Byte) : (s.portWrite p v).h = s.h := by unfold portWrite; split <;> [rfl; (split <;> rfl)]
@[simp] theorem portWrite_l (p v : Byte) : (s.portWrite p v).l = s.l := by unfold portWrite; split <;> [rfl; (split <;> rfl)]
@[simp] theorem portWrite_f (p v : Byte) : (s.portWrite p v).f = s.f := by unfold portWrite; split <;> [rfl; (split <;> rfl)]
@[simp] theorem portWrite_pc (p v : Byte) : (s.portWrite p v).pc = s.pc := by unfold portWrite; split <;> [rfl; (split <;> rfl)]
@[simp] theorem portWrite_sp (p v : Byte) : (s.portWrite p v).sp = s.sp := by unfold portWrite; split <;> [rfl; (split <;> rfl)]
@[simp] theorem portWrite_mem (p v : Byte) : (s.portWrite p v).mem = s.mem := by unfold portWrite; split <;> [rfl; (split <;> rfl)]
@[simp] theorem portWrite_ie (p v : Byte) : (s.portWrite p v).ie = s.ie := by unfold portWrite; split <;> [rfl; (split <;> rfl)]
@[simp] theorem portWrite_inp1 (p v : Byte) : (s.portWrite p v).inp1 = s.inp1 := by unfold portWrite; split <;> [rfl; (split <;> rfl)]
@[simp] theorem portWrite_inp2 (p v : Byte) : (s.portWrite p v).inp2 = s.inp2 := by unfold portWrite; split <;> [rfl; (split <;> rfl)]
@[simp] theorem portWrite_wpin (p v : Byte) : (s.portWrite p v).wpin = s.wpin := by unfold portWrite; split <;> [rfl; (split <;> rfl)]
@[simp] theorem portWrite_wmin (p v : Byte) : (s.portWrite p v).wmin = s.wmin := by unfold portWrite; split <;> [rfl; (split <;> rfl)]
@[simp] theorem portWrite_wmax (p v : Byte) : (s.portWrite p v).wmax = s.wmax := by unfold portWrite; split <;> [rfl; (split <;> rfl)]
@[simp] theorem portWrite_config (p v : Byte) : (s.portWrite p v).config = s.config := by unfold portWrite; split <;> [rfl; (split <;> rfl)]
@[simp] theorem portWrite_schedule (p v : Byte) : (s.portWrite p v).schedule = s.schedule := by unfold portWrite; split <;> [rfl; (split <;> rfl)]
@[simp] theorem portWrite_loadable (p v : Byte) : (s.portWrite p v).loadable = s.loadable := by unfold portWrite; split <;> [rfl; (split <;> rfl)]
@[simp] theorem portWrite_returned (p v : Byte) : (s.portWrite p v).returned = s.returned := by unfold portWrite; split <;> [rfl; (split <;> rfl)]
@[simp] theorem portWrite_diags (p v : Byte) : (s.portWrite p v).diags = s.diags := by unfold portWrite; split <;> [rfl; (split <;> rfl)]

/-! `setInputPort` writes inp1, inp2. -/

@[simp] theorem setInputPort_a (k : InputPort) (v : Byte) : (s.setInputPort k v).a = s.a := by cases k <;> rfl
@[simp] theorem setInputPort_b (k : InputPort) (v : Byte) : (s.setInputPort k v).b = s.b := by cases k <;> rfl
@[simp] theorem setInputPort_c (k : InputPort) (v : Byte) : (s.setInputPort k v).c = s.c := by cases k <;> rfl
@[simp] theorem setInputPort_d (k : InputPort) (v : Byte) : (s.setInputPort k v).d = s.d := by cases k <;> rfl
@[simp] theorem setInputPort_e (k : InputPort) (v : Byte) : (s.setInputPort k v).e = s.e := by cases k <;> rfl
@[simp] theorem setInputPort_h (k : InputPort) (v : Byte) : (s.setInputPort k v).h = s.h := by cases k <;> rfl
@[simp] theorem setInputPort_l (k : InputPort) (v : Byte) : (s.setInputPort k v).l = s.l := by cases k <;> rfl
@[simp] theorem setInputPort_f (k : InputPort) (v : Byte) : (s.setInputPort k v).f = s.f := by cases k <;> rfl
@[simp] theorem setInputPort_pc (k : InputPort) (v : Byte) : (s.setInputPort k v).pc = s.pc := by cases k <;> rfl
@[simp] theorem setInputPort_sp (k : InputPort) (v : Byte) : (s.setInputPort k v).sp = s.sp := by cases k <;> rfl
@[simp] theorem setInputPort_mem (k : InputPort) (v : Byte) : (s.setInputPort k v).mem = s.mem := by cases k <;> rfl
@[simp] theorem setInputPort_ie (k : InputPort) (v : Byte) : (s.setInputPort k v).ie = s.ie := by cases k <;> rfl
@[simp] theorem setInputPort_shift (k : InputPort) (v : Byte) : (s.setInputPort k v).shift = s.shift := by cases k <;> rfl
@[simp] theorem setInputPort_shoff (k : InputPort) (v : Byte) : (s.setInputPort k v).shoff = s.shoff := by cases k <;> rfl
@[simp] theorem setInputPort_wpin (k : InputPort) (v : Byte) : (s.setInputPort k v).wpin = s.wpin := by cases k <;> rfl
@[simp] theorem setInputPort_wmin (k : InputPort) (v : Byte) : (s.setInputPort k v).wmin = s.wmin := by cases k <;> rfl
@[simp] theorem setInputPort_wmax (k : InputPort) (v : Byte) : (s.setInputPort k v).wmax = s.wmax := by cases k <;> rfl
@[simp] theorem setInputPort_config (k : InputPort) (v : Byte) : (s.setInputPort k v).config = s.config := by cases k <;> rfl
@[simp] theorem setInputPort_schedule (k : InputPort) (v : Byte) : (s.setInputPort k v).schedule = s.schedule := by cases k <;> rfl
@[simp] theorem setInputPort_loadable (k : InputPort) (v : Byte) : (s.setInputPort k v).loadable = s.loadable := by cases k <;> rfl
@[simp] theorem setInputPort_returned (k : InputPort) (v : Byte) : (s.setInputPort k v).returned = s.returned := by cases k <;> rfl
@[simp] theorem setInputPort_diags (k : InputPort) (v : Byte) : (s.setInputPort k v).diags = s.diags := by cases k <;> rfl

/-! `emitDiag` writes diags. -/

@[simp] theorem emitDiag_a (op : Byte) : (s.emitDiag op).a = s.a := rfl
@[simp] theorem emitDiag_b (op : Byte) : (s.emitDiag op).b = s.b := rfl
@[simp] theorem emitDiag_c (op : Byte) : (s.emitDiag op).c = s.c := rfl
@[simp] theorem emitDiag_d (op : Byte) : (s.emitDiag op).d = s.d := rfl
@[simp] theorem emitDiag_e (op : Byte) : (s.emitDiag op).e = s.e := rfl
@[simp] theorem emitDiag_h (op : Byte) : (s.emitDiag op).h = s.h := rfl
@[simp] theorem emitDiag_l (op : Byte) : (s.emitDiag op).l = s.l := rfl
@[simp] theorem emitDiag_f (op : Byte) : (s.emitDiag op).f = s.f := rfl
@[simp] theorem emitDiag_pc (op : Byte) : (s.emitDiag op).pc = s.pc := rfl
@[simp] theorem emitDiag_sp (op : Byte) : (s.emitDiag op).sp = s.sp := rfl
@[simp] theorem emitDiag_mem (op : Byte) : (s.emitDiag op).mem = s.mem := rfl
@[simp] theorem emitDiag_ie (op : Byte) : (s.emitDiag op).ie = s.ie := rfl
@[simp] theorem emitDiag_shift (op : Byte) : (s.emitDiag op).shift = s.shift := rfl
@[simp] theorem emitDiag_shoff (op : Byte) : (s.emitDiag op).shoff = s.shoff := rfl
@[simp] theorem emitDiag_inp1 (op : Byte) : (s.emitDiag op).inp1 = s.inp1 := rfl
@[simp] theorem emitDiag_inp2 (op : Byte) : (s.emitDiag op).inp2 = s.inp2 := rfl
@[simp] theorem emitDiag_wpin (op : Byte) : (s.emitDiag op).wpin = s.wpin := rfl
@[simp] theorem emitDiag_wmin (op : Byte) : (s.emitDiag op).wmin = s.wmin := rfl
@[simp] theorem emitDiag_wmax (op : Byte) : (s.emitDiag op).wmax = s.wmax := rfl
@[simp] theorem emitDiag_config (op : Byte) : (s.emitDiag op).config = s.config := rfl
@[simp] theorem emitDiag_schedule (op : Byte) : (s.emitDiag op).schedule = s.schedule := rfl
@[simp] theorem emitDiag_loadable (op : Byte) : (s.emitDiag op).loadable = s.loadable := rfl
@[simp] theorem emitDiag_returned (op : Byte) : (s.emitDiag op).returned = s.returned := rfl
@[simp] theorem emitDiag_diags (op : Byte) : (s.emitDiag op).diags = s.diags ++ [⟨op, s.pc - 1⟩] := rfl

/-! `finishStep` writes returned, loadable. -/

@[simp] theorem finishStep_a (op : Byte) : (s.finishStep op).a = s.a := rfl
@[simp] theorem finishStep_b (op : Byte) : (s.finishStep op).b = s.b := rfl
@[simp] theorem finishStep_c (op : Byte) : (s.finishStep op).c = s.c := rfl
@[simp] theorem finishStep_d (op : Byte) : (s.finishStep op).d = s.d := rfl
@[simp] theorem finishStep_e (op : Byte) : (s.finishStep op).e = s.e := rfl
@[simp] theorem finishStep_h (op : Byte) : (s.finishStep op).h = s.h := rfl
@[simp] theorem finishStep_l (op : Byte) : (s.finishStep op).l = s.l := rfl
@[simp] theorem finishStep_f (op : Byte) : (s.finishStep op).f = s.f := rfl
@[simp] theorem finishStep_pc (op : Byte) : (s.finishStep op).pc = s.pc := rfl
@[simp] theorem finishStep_sp (op : Byte) : (s.finishStep op).sp = s.sp := rfl
@[simp] theorem finishStep_mem (op : Byte) : (s.finishStep op).mem = s.mem := rfl
@[simp] theorem finishStep_ie (op : Byte) : (s.finishStep op).ie = s.ie := rfl
@[simp] theorem finishStep_shift (op : Byte) : (s.finishStep op).shift = s.shift := rfl
@[simp] theorem finishStep_shoff (op : Byte) : (s.finishStep op).shoff = s.shoff := rfl
@[simp] theorem finishStep_inp1 (op : Byte) : (s.finishStep op).inp1 = s.inp1 := rfl
@[simp] theorem finishStep_inp2 (op : Byte) : (s.finishStep op).inp2 = s.inp2 := rfl
@[simp] theorem finishStep_wpin (op : Byte) : (s.finishStep op).wpin = s.wpin := rfl
@[simp] theorem finishStep_wmin (op : Byte) : (s.finishStep op).wmin = s.wmin := rfl
@[simp] theorem finishStep_wmax (op : Byte) : (s.finishStep op).wmax = s.wmax := rfl
@[simp] theorem finishStep_config (op : Byte) : (s.finishStep op).config = s.config := rfl
@[simp] theorem finishStep_schedule (op : Byte) : (s.finishStep op).schedule = s.schedule := rfl
@[simp] theorem finishStep_loadable (op : Byte) : (s.finishStep op).loadable = false := rfl
@[simp] theorem finishStep_returned (op : Byte) : (s.finishStep op).returned = .cycles (s.stepCost op) := rfl
@[simp] theorem finishStep_diags (op : Byte) : (s.finishStep op).diags = s.diags := rfl

/-! `setBC` writes b, c. -/

@[simp] theorem setBC_a (v : Word) : (s.setBC v).a = s.a := rfl
@[simp] theorem setBC_b (v : Word) : (s.setBC v).b = hi8 v := rfl
@[simp] theorem setBC_c (v : Word) : (s.setBC v).c = lo8 v := rfl
@[simp] theorem setBC_d (v : Word) : (s.setBC v).d = s.d := rfl
@[simp] theorem setBC_e (v : Word) : (s.setBC v).e = s.e := rfl
@[simp] theorem setBC_h (v : Word) : (s.setBC v).h = s.h := rfl
@[simp] theorem setBC_l (v : Word) : (s.setBC v).l = s.l := rfl
@[simp] theorem setBC_f (v : Word) : (s.setBC v).f = s.f := rfl
@[simp] theorem setBC_pc (v : Word) : (s.setBC v).pc = s.pc := rfl
@[simp] theorem setBC_sp (v : Word) : (s.setBC v).sp = s.sp := rfl
@[simp] theorem setBC_mem (v : Word) : (s.setBC v).mem = s.mem := rfl
@[simp] theorem setBC_ie (v : Word) : (s.setBC v).ie = s.ie := rfl
@[simp] theorem setBC_shift (v : Word) : (s.setBC v).shift = s.shift := rfl
@[simp] theorem setBC_shoff (v : Word) : (s.setBC v).shoff = s.shoff := rfl
@[simp] theorem setBC_inp1 (v : Word) : (s.setBC v).inp1 = s.inp1 := rfl
@[simp] theorem setBC_inp2 (v : Word) : (s.setBC v).inp2 = s.inp2 := rfl
@[simp] theorem setBC_wpin (v : Word) : (s.setBC v).wpin = s.wpin := rfl
@[simp] theorem setBC_wmin (v : Word) : (s.setBC v).wmin = s.wmin := rfl
@[simp] theorem setBC_wmax (v : Word) : (s.setBC v).wmax = s.wmax := rfl
@[simp] theorem setBC_config (v : Word) : (s.setBC v).config = s.config := rfl
@[simp] theorem setBC_schedule (v : Word) : (s.setBC v).schedule = s.schedule := rfl
@[simp] theorem setBC_loadable (v : Word) : (s.setBC v).loadable = s.loadable := rfl
@[simp] theorem setBC_returned (v : Word) : (s.setBC v).returned = s.returned := rfl
@[simp] theorem setBC_diags (v : Word) : (s.setBC v).diags = s.diags := rfl

/-! `setDE` writes d, e. -/

@[simp] theorem setDE_a (v : Word) : (s.setDE v).a = s.a := rfl
@[simp] theorem setDE_b (v : Word) : (s.setDE v).b = s.b := rfl
@[simp] theorem setDE_c (v : Word) : (s.setDE v).c = s.c := rfl
@[simp] theorem setDE_d (v : Word) : (s.setDE v).d = hi8 v := rfl
@[simp] theorem setDE_e (v : Word) : (s.setDE v).e = lo8 v := rfl
@[simp] theorem setDE_h (v : Word) : (s.setDE v).h = s.h := rfl
@[simp] theorem setDE_l (v : Word) : (s.setDE v).l = s.l := rfl
@[simp] theorem setDE_f (v : Word) : (s.setDE v).f = s.f := rfl
@[simp] theorem setDE_pc (v : Word) : (s.setDE v).pc = s.pc := rfl
@[simp] theorem setDE_sp (v : Word) : (s.setDE v).sp = s.sp := rfl
@[simp] theorem setDE_mem (v : Word) : (s.setDE v).mem = s.mem := rfl
@[simp] theorem setDE_ie (v : Word) : (s.setDE v).ie = s.ie := rfl
@[simp] theorem setDE_shift (v : Word) : (s.setDE v).shift = s.shift := rfl
@[simp] theorem setDE_shoff (v : Word) : (s.setDE v).shoff = s.shoff := rfl
@[simp] theorem setDE_inp1 (v : Word) : (s.setDE v).inp1 = s.inp1 := rfl
@[simp] theorem setDE_inp2 (v : Word) : (s.setDE v).inp2 = s.inp2 := rfl
@[simp] theorem setDE_wpin (v : Word) : (s.setDE v).wpin = s.wpin := rfl
@[simp] theorem setDE_wmin (v : Word) : (s.setDE v).wmin = s.wmin := rfl
@[simp] theorem setDE_wmax (v : Word) : (s.setDE v).wmax = s.wmax := rfl
@[simp] theorem setDE_config (v : Word) : (s.setDE v).config = s.config := rfl
@[simp] theorem setDE_schedule (v : Word) : (s.setDE v).schedule = s.schedule := rfl
@[simp] theorem setDE_loadable (v : Word) : (s.setDE v).loadable = s.loadable := rfl
@[simp] theorem setDE_returned (v : Word) : (s.setDE v).returned = s.returned := rfl
@[simp] theorem setDE_diags (v : Word) : (s.setDE v).diags = s.diags := rfl

/-! `setHL` writes h, l. -/

@[simp] theorem setHL_a (v : Word) : (s.setHL v).a = s.a := rfl
@[simp] theorem setHL_b (v : Word) : (s.setHL v).b = s.b := rfl
@[simp] theorem setHL_c (v : Word) : (s.setHL v).c = s.c := rfl
@[simp] theorem setHL_d (v : Word) : (s.setHL v).d = s.d := rfl
@[simp] theorem setHL_e (v : Word) : (s.setHL v).e = s.e := rfl
@[simp] theorem setHL_h (v : Word) : (s.setHL v).h = hi8 v := rfl
@[simp] theorem setHL_l (v : Word) : (s.setHL v).l = lo8 v := rfl
@[simp] theorem setHL_f (v : Word) : (s.setHL v).f = s.f := rfl
@[simp] theorem setHL_pc (v : Word) : (s.setHL v).pc = s.pc := rfl
@[simp] theorem setHL_sp (v : Word) : (s.setHL v).sp = s.sp := rfl
@[simp] theorem setHL_mem (v : Word) : (s.setHL v).mem = s.mem := rfl
@[simp] theorem setHL_ie (v : Word) : (s.setHL v).ie = s.ie := rfl
@[simp] theorem setHL_shift (v : Word) : (s.setHL v).shift = s.shift := rfl
@[simp] theorem setHL_shoff (v : Word) : (s.setHL v).shoff = s.shoff := rfl
@[simp] theorem setHL_inp1 (v : Word) : (s.setHL v).inp1 = s.inp1 := rfl
@[simp] theorem setHL_inp2 (v : Word) : (s.setHL v).inp2 = s.inp2 := rfl
@[simp] theorem setHL_wpin (v : Word) : (s.setHL v).wpin = s.wpin := rfl
@[simp] theorem setHL_wmin (v : Word) : (s.setHL v).wmin = s.wmin := rfl
@[simp] theorem setHL_wmax (v : Word) : (s.setHL v).wmax = s.wmax := rfl
@[simp] theorem setHL_config (v : Word) : (s.setHL v).config = s.config := rfl
@[simp] theorem setHL_schedule (v : Word) : (s.setHL v).schedule = s.schedule := rfl
@[simp] theorem setHL_loadable (v : Word) : (s.setHL v).loadable = s.loadable := rfl
@[simp] theorem setHL_returned (v : Word) : (s.setHL v).returned = s.returned := rfl
@[simp] theorem setHL_diags (v : Word) : (s.setHL v).diags = s.diags := rfl

/-! `setPSW` writes a, f. -/

@[simp] theorem setPSW_a (v : Word) : (s.setPSW v).a = hi8 v := rfl
@[simp] theorem setPSW_b (v : Word) : (s.setPSW v).b = s.b := rfl
@[simp] theorem setPSW_c (v : Word) : (s.setPSW v).c = s.c := rfl
@[simp] theorem setPSW_d (v : Word) : (s.setPSW v).d = s.d := rfl
@[simp] theorem setPSW_e (v : Word) : (s.setPSW v).e = s.e := rfl
@[simp] theorem setPSW_h (v : Word) : (s.setPSW v).h = s.h := rfl
@[simp] theorem setPSW_l (v : Word) : (s.setPSW v).l = s.l := rfl
@[simp] theorem setPSW_f (v : Word) : (s.setPSW v).f = lo8 v := rfl
@[simp] theorem setPSW_pc (v : Word) : (s.setPSW v).pc = s.pc := rfl
@[simp] theorem setPSW_sp (v : Word) : (s.setPSW v).sp = s.sp := rfl
@[simp] theorem setPSW_mem (v : Word) : (s.setPSW v).mem = s.mem := rfl
@[simp] theorem setPSW_ie (v : Word) : (s.setPSW v).ie = s.ie := rfl
@[simp] theorem setPSW_shift (v : Word) : (s.setPSW v).shift = s.shift := rfl
@[simp] theorem setPSW_shoff (v : Word) : (s.setPSW v).shoff = s.shoff := rfl
@[simp] theorem setPSW_inp1 (v : Word) : (s.setPSW v).inp1 = s.inp1 := rfl
@[simp] theorem setPSW_inp2 (v : Word) : (s.setPSW v).inp2 = s.inp2 := rfl
@[simp] theorem setPSW_wpin (v : Word) : (s.setPSW v).wpin = s.wpin := rfl
@[simp] theorem setPSW_wmin (v : Word) : (s.setPSW v).wmin = s.wmin := rfl
@[simp] theorem setPSW_wmax (v : Word) : (s.setPSW v).wmax = s.wmax := rfl
@[simp] theorem setPSW_config (v : Word) : (s.setPSW v).config = s.config := rfl
@[simp] theorem setPSW_schedule (v : Word) : (s.setPSW v).schedule = s.schedule := rfl
@[simp] theorem setPSW_loadable (v : Word) : (s.setPSW v).loadable = s.loadable := rfl
@[simp] theorem setPSW_returned (v : Word) : (s.setPSW v).returned = s.returned := rfl
@[simp] theorem setPSW_diags (v : Word) : (s.setPSW v).diags = s.diags := rfl

/-! `writeReg` writes a, b, c, d, e, h, l, mem. -/

@[simp] theorem writeReg_f (r : Reg8) (v : Byte) : (s.writeReg r v).f = s.f := by cases r <;> rfl
@[simp] theorem writeReg_pc (r : Reg8) (v : Byte) : (s.writeReg r v).pc = s.pc := by cases r <;> rfl
@[simp] theorem writeReg_sp (r : Reg8) (v : Byte) : (s.writeReg r v).sp = s.sp := by cases r <;> rfl
@[simp] theorem writeReg_ie (r : Reg8) (v : Byte) : (s.writeReg r v).ie = s.ie := by cases r <;> rfl
@[simp] theorem writeReg_shift (r : Reg8) (v : Byte) : (s.writeReg r v).shift = s.shift := by cases r <;> rfl
@[simp] theorem writeReg_shoff (r : Reg8) (v : Byte) : (s.writeReg r v).shoff = s.shoff := by cases r <;> rfl
@[simp] theorem writeReg_inp1 (r : Reg8) (v : Byte) : (s.writeReg r v).inp1 = s.inp1 := by cases r <;> rfl
@[simp] theorem writeReg_inp2 (r : Reg8) (v : Byte) : (s.writeReg r v).inp2 = s.inp2 := by cases r <;> rfl
@[simp] theorem writeReg_wpin (r : Reg8) (v : Byte) : (s.writeReg r v).wpin = s.wpin := by cases r <;> rfl
@[simp] theorem writeReg_wmin (r : Reg8) (v : Byte) : (s.writeReg r v).wmin = s.wmin := by cases r <;> rfl
@[simp] theorem writeReg_wmax (r : Reg8) (v : Byte) : (s.writeReg r v).wmax = s.wmax := by cases r <;> rfl
@[simp] theorem writeReg_config (r : Reg8) (v : Byte) : (s.writeReg r v).config = s.config := by cases r <;> rfl
@[simp] theorem writeReg_schedule (r : Reg8) (v : Byte) : (s.writeReg r v).schedule = s.schedule := by cases r <;> rfl
@[simp] theorem writeReg_loadable (r : Reg8) (v : Byte) : (s.writeReg r v).loadable = s.loadable := by cases r <;> rfl
@[simp] theorem writeReg_returned (r : Reg8) (v : Byte) : (s.writeReg r v).returned = s.returned := by cases r <;> rfl
@[simp] theorem writeReg_diags (r : Reg8) (v : Byte) : (s.writeReg r v).diags = s.diags := by cases r <;> rfl

/-! `writePair` writes b, c, d, e, h, l, sp, wpin, wmin, wmax. -/

@[simp] theorem writePair_a (p : Pair) (v : Word) : (s.writePair p v).a = s.a := by cases p <;> simp [writePair]
@[simp] theorem writePair_f (p : Pair) (v : Word) : (s.writePair p v).f = s.f := by cases p <;> simp [writePair]
@[simp] theorem writePair_pc (p : Pair) (v : Word) : (s.writePair p v).pc = s.pc := by cases p <;> simp [writePair]
@[simp] theorem writePair_mem (p : Pair) (v : Word) : (s.writePair p v).mem = s.mem := by cases p <;> simp [writePair]
@[simp] theorem writePair_ie (p : Pair) (v : Word) : (s.writePair p v).ie = s.ie := by cases p <;> simp [writePair]
@[simp] theorem writePair_shift (p : Pair) (v : Word) : (s.writePair p v).shift = s.shift := by cases p <;> simp [writePair]
@[simp] theorem writePair_shoff (p : Pair) (v : Word) : (s.writePair p v).shoff = s.shoff := by cases p <;> simp [writePair]
@[simp] theorem writePair_inp1 (p : Pair) (v : Word) : (s.writePair p v).inp1 = s.inp1 := by cases p <;> simp [writePair]
@[simp] theorem writePair_inp2 (p : Pair) (v : Word) : (s.writePair p v).inp2 = s.inp2 := by cases p <;> simp [writePair]
@[simp] theorem writePair_config (p : Pair) (v : Word) : (s.writePair p v).config = s.config := by cases p <;> simp [writePair]
@[simp] theorem writePair_schedule (p : Pair) (v : Word) : (s.writePair p v).schedule = s.schedule := by cases p <;> simp [writePair]
@[simp] theorem writePair_loadable (p : Pair) (v : Word) : (s.writePair p v).loadable = s.loadable := by cases p <;> simp [writePair]
@[simp] theorem writePair_returned (p : Pair) (v : Word) : (s.writePair p v).returned = s.returned := by cases p <;> simp [writePair]
@[simp] theorem writePair_diags (p : Pair) (v : Word) : (s.writePair p v).diags = s.diags := by cases p <;> simp [writePair]

/-! `writeStackPair` writes a, b, c, d, e, h, l, f. -/

@[simp] theorem writeStackPair_pc (q : StackPair) (v : Word) : (s.writeStackPair q v).pc = s.pc := by cases q <;> rfl
@[simp] theorem writeStackPair_sp (q : StackPair) (v : Word) : (s.writeStackPair q v).sp = s.sp := by cases q <;> rfl
@[simp] theorem writeStackPair_mem (q : StackPair) (v : Word) : (s.writeStackPair q v).mem = s.mem := by cases q <;> rfl
@[simp] theorem writeStackPair_ie (q : StackPair) (v : Word) : (s.writeStackPair q v).ie = s.ie := by cases q <;> rfl
@[simp] theorem writeStackPair_shift (q : StackPair) (v : Word) : (s.writeStackPair q v).shift = s.shift := by cases q <;> rfl
@[simp] theorem writeStackPair_shoff (q : StackPair) (v : Word) : (s.writeStackPair q v).shoff = s.shoff := by cases q <;> rfl
@[simp] theorem writeStackPair_inp1 (q : StackPair) (v : Word) : (s.writeStackPair q v).inp1 = s.inp1 := by cases q <;> rfl
@[simp] theorem writeStackPair_inp2 (q : StackPair) (v : Word) : (s.writeStackPair q v).inp2 = s.inp2 := by cases q <;> rfl
@[simp] theorem writeStackPair_wpin (q : StackPair) (v : Word) : (s.writeStackPair q v).wpin = s.wpin := by cases q <;> rfl
@[simp] theorem writeStackPair_wmin (q : StackPair) (v : Word) : (s.writeStackPair q v).wmin = s.wmin := by cases q <;> rfl
@[simp] theorem writeStackPair_wmax (q : StackPair) (v : Word) : (s.writeStackPair q v).wmax = s.wmax := by cases q <;> rfl
@[simp] theorem writeStackPair_config (q : StackPair) (v : Word) : (s.writeStackPair q v).config = s.config := by cases q <;> rfl
@[simp] theorem writeStackPair_schedule (q : StackPair) (v : Word) : (s.writeStackPair q v).schedule = s.schedule := by cases q <;> rfl
@[simp] theorem writeStackPair_loadable (q : StackPair) (v : Word) : (s.writeStackPair q v).loadable = s.loadable := by cases q <;> rfl
@[simp] theorem writeStackPair_returned (q : StackPair) (v : Word) : (s.writeStackPair q v).returned = s.returned := by cases q <;> rfl
@[simp] theorem writeStackPair_diags (q : StackPair) (v : Word) : (s.writeStackPair q v).diags = s.diags := by cases q <;> rfl

end Sys2Proof.Machine.State
end

