-- ==== Sys2Proof/Laws/Exec.lean ====
section
/-! SUPPORT. What `exec` answers, one lemma per constructor of `Instr`: the next state, as the operation or the record update
the meaning makes of the state. A proof about `exec` cites these and never unfolds a meaning. After them, the operations of the
family files as record updates, of which simp reads off every field. -/

namespace Sys2Proof.Machine

@[simp] theorem exec_nop (s : State) : exec .nop s = .next s := rfl
@[simp] theorem exec_lxi (p : Pair) (v : Word) (s : State) : exec (.lxi p v) s = .next (s.writePair p v) := rfl
@[simp] theorem exec_stax (p : IndPair) (s : State) : exec (.stax p) s = .next (s.memWrite (s.readIndPair p) s.a) := rfl
@[simp] theorem exec_inx (p : Pair) (s : State) :
    exec (.inx p) s = .next ((s.writePair p (s.readPair p + 1)).forceCarry (decide (s.readPair p = 0xFFFF))) := rfl
@[simp] theorem exec_inr (r : Reg8) (s : State) :
    exec (.inr r) s = .next (s.countByte r ((s.readReg r).toNat + 1) (decide (s.readReg r = 0xFF))) := rfl
@[simp] theorem exec_dcr (r : Reg8) (s : State) :
    exec (.dcr r) s = .next (s.countByte r ((s.readReg r).toNat - 1) (decide (s.readReg r = 0x00))) := rfl
@[simp] theorem exec_mvi (r : Reg8) (v : Byte) (s : State) : exec (.mvi r v) s = .next (s.writeReg r v) := rfl
@[simp] theorem exec_rlc (s : State) : exec .rlc s = .next (s.rotateLeft (s.a.getLsbD 7)) := rfl
@[simp] theorem exec_unrecognised (op : Byte) (s : State) : exec (.unrecognised op) s = .next (s.emitDiag op) := rfl
@[simp] theorem exec_dad (p : Pair) (s : State) : exec (.dad p) s = .next (s.addToHL (s.readPair p)) := rfl
@[simp] theorem exec_ldax (p : IndPair) (s : State) :
    exec (.ldax p) s = .next { s with a := s.memRead (s.readIndPair p) } := rfl
@[simp] theorem exec_dcx (p : Pair) (s : State) :
    exec (.dcx p) s = .next ((s.writePair p (s.readPair p - 1)).forceCarry (decide (s.readPair p = 0x0000))) := rfl
@[simp] theorem exec_rrc (s : State) : exec .rrc s = .next (s.rotateRight (s.a.getLsbD 0)) := rfl
@[simp] theorem exec_ral (s : State) : exec .ral s = .next (s.rotateLeft (flagC s.f)) := rfl
@[simp] theorem exec_rar (s : State) : exec .rar s = .next (s.rotateRight (flagC s.f)) := rfl
@[simp] theorem exec_shld (addr : Word) (s : State) : exec (.shld addr) s = .next (s.memWrite16 addr s.hl) := rfl
@[simp] theorem exec_daa (s : State) : exec .daa s = .next s.decimalAdjust := rfl
@[simp] theorem exec_lhld (addr : Word) (s : State) : exec (.lhld addr) s = .next (s.setHL (s.memRead16 addr)) := rfl
@[simp] theorem exec_cma (s : State) : exec .cma s = .next { s with a := s.a ^^^ 0xFF } := rfl
@[simp] theorem exec_sta (addr : Word) (s : State) : exec (.sta addr) s = .next (s.memWrite addr s.a) := rfl
@[simp] theorem exec_stc (s : State) : exec .stc s = .next { s with f := setCY s.f true } := rfl
@[simp] theorem exec_lda (addr : Word) (s : State) : exec (.lda addr) s = .next { s with a := s.memRead addr } := rfl
@[simp] theorem exec_cmc (s : State) : exec .cmc s = .next { s with f := setCY s.f (!flagC s.f) } := rfl
@[simp] theorem exec_mov (dst src : Reg8) (s : State) : exec (.mov dst src) s = .next (s.writeReg dst (s.readReg src)) := rfl
@[simp] theorem exec_add (r : Reg8) (s : State) :
    exec (.add r) s = .next (s.addResult (s.a.toNat + (s.readReg r).toNat)) := rfl
@[simp] theorem exec_adc (r : Reg8) (s : State) :
    exec (.adc r) s = .next (s.addResult (s.a.toNat + (s.readReg r).toNat + carryIn s.f)) := rfl
@[simp] theorem exec_sub (r : Reg8) (s : State) :
    exec (.sub r) s = .next (s.subResult (s.a.toNat - (s.readReg r).toNat)) := rfl
@[simp] theorem exec_sbb (r : Reg8) (s : State) :
    exec (.sbb r) s = .next (s.subResult (s.a.toNat - (s.readReg r).toNat - carryIn s.f)) := rfl
@[simp] theorem exec_ana (r : Reg8) (s : State) : exec (.ana r) s = .next (s.logicA (s.a &&& s.readReg r)) := rfl
@[simp] theorem exec_xra (r : Reg8) (s : State) : exec (.xra r) s = .next (s.logicA (s.a ^^^ s.readReg r)) := rfl
@[simp] theorem exec_ora (r : Reg8) (s : State) : exec (.ora r) s = .next (s.logicA (s.a ||| s.readReg r)) := rfl
@[simp] theorem exec_cmp (r : Reg8) (s : State) :
    exec (.cmp r) s = .next (s.compareResult (s.a.toNat - (s.readReg r).toNat)) := rfl
@[simp] theorem exec_rnz (s : State) : exec .rnz s = .next (s.returnIf .nz) := rfl
@[simp] theorem exec_pop (q : StackPair) (s : State) :
    exec (.pop q) s = .next (s.popWord.2.writeStackPair q s.popWord.1) := rfl
@[simp] theorem exec_jnz (addr : Word) (s : State) : exec (.jnz addr) s = .next (s.jumpIf .nz addr) := rfl
@[simp] theorem exec_jmp (addr : Word) (s : State) : exec (.jmp addr) s = .next (s.jump addr) := rfl
@[simp] theorem exec_cnz (addr : Word) (s : State) : exec (.cnz addr) s = .next (s.callIf .nz addr) := rfl
@[simp] theorem exec_push (q : StackPair) (s : State) : exec (.push q) s = .next (s.pushWord (s.readStackPair q)) := rfl
@[simp] theorem exec_adi (v : Byte) (s : State) : exec (.adi v) s = .next (s.addResult (s.a.toNat + v.toNat)) := rfl
@[simp] theorem exec_rst (n : BitVec 3) (s : State) : exec (.rst n) s = .next (s.callTo (vector n)) := rfl
@[simp] theorem exec_rz (s : State) : exec .rz s = .next (s.returnIf .z) := rfl
@[simp] theorem exec_ret (s : State) : exec .ret s = .next s.returnPC := rfl
@[simp] theorem exec_jz (addr : Word) (s : State) : exec (.jz addr) s = .next (s.jumpIf .z addr) := rfl
@[simp] theorem exec_cz (addr : Word) (s : State) : exec (.cz addr) s = .next (s.callIf .z addr) := rfl
@[simp] theorem exec_call (addr : Word) (s : State) : exec (.call addr) s = .next (s.callTo addr) := rfl
@[simp] theorem exec_aci (v : Byte) (s : State) :
    exec (.aci v) s = .next (s.addResult (s.a.toNat + v.toNat + carryIn s.f)) := rfl
@[simp] theorem exec_rnc (s : State) : exec .rnc s = .next (s.returnIf .nc) := rfl
@[simp] theorem exec_jnc (addr : Word) (s : State) : exec (.jnc addr) s = .next (s.jumpIf .nc addr) := rfl
@[simp] theorem exec_outPort (port : Byte) (s : State) : exec (.outPort port) s = .next (s.portWrite port s.a) := rfl
@[simp] theorem exec_cnc (addr : Word) (s : State) : exec (.cnc addr) s = .next (s.callIf .nc addr) := rfl
@[simp] theorem exec_sui (v : Byte) (s : State) : exec (.sui v) s = .next (s.subResult (s.a.toNat - v.toNat)) := rfl
@[simp] theorem exec_rc (s : State) : exec .rc s = .next (s.returnIf .c) := rfl
@[simp] theorem exec_jc (addr : Word) (s : State) : exec (.jc addr) s = .next (s.jumpIf .c addr) := rfl
@[simp] theorem exec_inPort (port : Byte) (s : State) : exec (.inPort port) s = .next { s with a := s.portRead port } := rfl
@[simp] theorem exec_cc (addr : Word) (s : State) : exec (.cc addr) s = .next (s.callIf .c addr) := rfl
@[simp] theorem exec_sbi (v : Byte) (s : State) :
    exec (.sbi v) s = .next (s.subResult (s.a.toNat - v.toNat - carryIn s.f)) := rfl
@[simp] theorem exec_rpo (s : State) : exec .rpo s = .next (s.returnIf .po) := rfl
@[simp] theorem exec_jpo (addr : Word) (s : State) : exec (.jpo addr) s = .next (s.jumpIf .po addr) := rfl
@[simp] theorem exec_xthl (s : State) : exec .xthl s = .next ((s.popWord.2.pushWord s.hl).setHL s.popWord.1) := rfl
@[simp] theorem exec_cpo (addr : Word) (s : State) : exec (.cpo addr) s = .next (s.callIf .po addr) := rfl
@[simp] theorem exec_ani (v : Byte) (s : State) : exec (.ani v) s = .next (s.logicA (s.a &&& v)) := rfl
@[simp] theorem exec_rpe (s : State) : exec .rpe s = .next (s.returnIf .pe) := rfl
@[simp] theorem exec_pchl (s : State) : exec .pchl s = .next (s.jump s.hl) := rfl
@[simp] theorem exec_jpe (addr : Word) (s : State) : exec (.jpe addr) s = .next (s.jumpIf .pe addr) := rfl
@[simp] theorem exec_xchg (s : State) : exec .xchg s = .next ((s.setHL s.de).setDE s.hl) := rfl
@[simp] theorem exec_cpe (addr : Word) (s : State) : exec (.cpe addr) s = .next (s.callIf .pe addr) := rfl
@[simp] theorem exec_xri (v : Byte) (s : State) : exec (.xri v) s = .next (s.logicA (s.a ^^^ v)) := rfl
@[simp] theorem exec_rp (s : State) : exec .rp s = .next (s.returnIf .p) := rfl
@[simp] theorem exec_jp (addr : Word) (s : State) : exec (.jp addr) s = .next (s.jumpIf .p addr) := rfl
@[simp] theorem exec_di (s : State) : exec .di s = .next { s with ie := false } := rfl
@[simp] theorem exec_cp (addr : Word) (s : State) : exec (.cp addr) s = .next (s.callIf .p addr) := rfl
@[simp] theorem exec_ori (v : Byte) (s : State) : exec (.ori v) s = .next (s.logicA (s.a ||| v)) := rfl
@[simp] theorem exec_rm (s : State) : exec .rm s = .next (s.returnIf .m) := rfl
@[simp] theorem exec_sphl (s : State) : exec .sphl s = .next (s.setPointer s.hl) := rfl
@[simp] theorem exec_jm (addr : Word) (s : State) : exec (.jm addr) s = .next (s.jumpIf .m addr) := rfl
@[simp] theorem exec_ei (s : State) : exec .ei s = .next { s with ie := true } := rfl
@[simp] theorem exec_cm (addr : Word) (s : State) : exec (.cm addr) s = .next (s.callIf .m addr) := rfl
@[simp] theorem exec_cpi (v : Byte) (s : State) : exec (.cpi v) s = .next (s.compareResult (s.a.toNat - v.toNat)) := rfl

namespace State

variable (s : State)

/-! ### The operations of the family files -/

@[simp] theorem logicA_eq (v : Byte) : s.logicA v = { s with a := v, f := updateFlagsAdd s.f v.toNat } := rfl

@[simp] theorem addResult_eq (t : Int) : s.addResult t = { s with a := low8 t, f := updateFlagsAdd s.f t } := rfl

@[simp] theorem subResult_eq (t : Int) : s.subResult t = { s with a := low8 t, f := updateFlagsSub s.f t } := rfl

@[simp] theorem compareResult_eq (t : Int) : s.compareResult t = { s with f := updateFlagsSub s.f t } := rfl

@[simp] theorem countByte_eq (r : Reg8) (t : Int) (wrap : Bool) :
    s.countByte r t wrap = { s.writeReg r (low8 t) with f := setCY (setZSP s.f t) wrap } := rfl

@[simp] theorem addToHL_eq (v : Word) :
    s.addToHL v = { s.setHL (BitVec.ofNat 16 (s.hl.toNat + v.toNat)) with
      f := setCY s.f (decide (s.hl.toNat + v.toNat > 0xFFFF)) } := rfl

/-- DAA writes A and F only. -/
theorem decimalAdjust_eq :
    s.decimalAdjust = { s with a := s.decimalAdjust.a, f := s.decimalAdjust.f } := rfl

@[simp] theorem rotateLeft_eq (bitIn : Bool) :
    s.rotateLeft bitIn = { s with a := s.a.extractLsb' 0 7 ++ BitVec.ofBool bitIn, f := setCY s.f (s.a.getLsbD 7) } := rfl

@[simp] theorem rotateRight_eq (bitIn : Bool) :
    s.rotateRight bitIn = { s with a := BitVec.ofBool bitIn ++ s.a.extractLsb' 1 7, f := setCY s.f (s.a.getLsbD 0) } := rfl

@[simp] theorem memWrite16_eq (x v : Word) : s.memWrite16 x v = (s.memWrite x (lo8 v)).memWrite (x + 1) (hi8 v) := rfl

theorem forceCarry_true : s.forceCarry true = { s with f := setCY s.f true } := rfl

theorem forceCarry_false : s.forceCarry false = s := rfl

theorem jumpIf_eq (cond : Cond) (x : Word) : s.jumpIf cond x = if condHolds s.f cond then s.jump x else s := rfl

theorem callIf_eq (cond : Cond) (x : Word) : s.callIf cond x = if condHolds s.f cond then s.callTo x else s := rfl

theorem returnIf_eq (cond : Cond) : s.returnIf cond = if condHolds s.f cond then s.returnPC else s := rfl

/-! `decimalAdjust` writes a, f and nothing else. -/

@[simp] theorem decimalAdjust_b : (s.decimalAdjust).b = s.b := rfl
@[simp] theorem decimalAdjust_c : (s.decimalAdjust).c = s.c := rfl
@[simp] theorem decimalAdjust_d : (s.decimalAdjust).d = s.d := rfl
@[simp] theorem decimalAdjust_e : (s.decimalAdjust).e = s.e := rfl
@[simp] theorem decimalAdjust_h : (s.decimalAdjust).h = s.h := rfl
@[simp] theorem decimalAdjust_l : (s.decimalAdjust).l = s.l := rfl
@[simp] theorem decimalAdjust_pc : (s.decimalAdjust).pc = s.pc := rfl
@[simp] theorem decimalAdjust_sp : (s.decimalAdjust).sp = s.sp := rfl
@[simp] theorem decimalAdjust_mem : (s.decimalAdjust).mem = s.mem := rfl
@[simp] theorem decimalAdjust_ie : (s.decimalAdjust).ie = s.ie := rfl
@[simp] theorem decimalAdjust_shift : (s.decimalAdjust).shift = s.shift := rfl
@[simp] theorem decimalAdjust_shoff : (s.decimalAdjust).shoff = s.shoff := rfl
@[simp] theorem decimalAdjust_inp1 : (s.decimalAdjust).inp1 = s.inp1 := rfl
@[simp] theorem decimalAdjust_inp2 : (s.decimalAdjust).inp2 = s.inp2 := rfl
@[simp] theorem decimalAdjust_wpin : (s.decimalAdjust).wpin = s.wpin := rfl
@[simp] theorem decimalAdjust_wmin : (s.decimalAdjust).wmin = s.wmin := rfl
@[simp] theorem decimalAdjust_wmax : (s.decimalAdjust).wmax = s.wmax := rfl
@[simp] theorem decimalAdjust_config : (s.decimalAdjust).config = s.config := rfl
@[simp] theorem decimalAdjust_schedule : (s.decimalAdjust).schedule = s.schedule := rfl
@[simp] theorem decimalAdjust_loadable : (s.decimalAdjust).loadable = s.loadable := rfl
@[simp] theorem decimalAdjust_returned : (s.decimalAdjust).returned = s.returned := rfl
@[simp] theorem decimalAdjust_diags : (s.decimalAdjust).diags = s.diags := rfl

/-! `forceCarry` writes f and nothing else. -/

@[simp] theorem forceCarry_a (c : Bool) : (s.forceCarry c).a = s.a := by cases c <;> rfl
@[simp] theorem forceCarry_b (c : Bool) : (s.forceCarry c).b = s.b := by cases c <;> rfl
@[simp] theorem forceCarry_c (c : Bool) : (s.forceCarry c).c = s.c := by cases c <;> rfl
@[simp] theorem forceCarry_d (c : Bool) : (s.forceCarry c).d = s.d := by cases c <;> rfl
@[simp] theorem forceCarry_e (c : Bool) : (s.forceCarry c).e = s.e := by cases c <;> rfl
@[simp] theorem forceCarry_h (c : Bool) : (s.forceCarry c).h = s.h := by cases c <;> rfl
@[simp] theorem forceCarry_l (c : Bool) : (s.forceCarry c).l = s.l := by cases c <;> rfl
@[simp] theorem forceCarry_pc (c : Bool) : (s.forceCarry c).pc = s.pc := by cases c <;> rfl
@[simp] theorem forceCarry_sp (c : Bool) : (s.forceCarry c).sp = s.sp := by cases c <;> rfl
@[simp] theorem forceCarry_mem (c : Bool) : (s.forceCarry c).mem = s.mem := by cases c <;> rfl
@[simp] theorem forceCarry_ie (c : Bool) : (s.forceCarry c).ie = s.ie := by cases c <;> rfl
@[simp] theorem forceCarry_shift (c : Bool) : (s.forceCarry c).shift = s.shift := by cases c <;> rfl
@[simp] theorem forceCarry_shoff (c : Bool) : (s.forceCarry c).shoff = s.shoff := by cases c <;> rfl
@[simp] theorem forceCarry_inp1 (c : Bool) : (s.forceCarry c).inp1 = s.inp1 := by cases c <;> rfl
@[simp] theorem forceCarry_inp2 (c : Bool) : (s.forceCarry c).inp2 = s.inp2 := by cases c <;> rfl
@[simp] theorem forceCarry_wpin (c : Bool) : (s.forceCarry c).wpin = s.wpin := by cases c <;> rfl
@[simp] theorem forceCarry_wmin (c : Bool) : (s.forceCarry c).wmin = s.wmin := by cases c <;> rfl
@[simp] theorem forceCarry_wmax (c : Bool) : (s.forceCarry c).wmax = s.wmax := by cases c <;> rfl
@[simp] theorem forceCarry_config (c : Bool) : (s.forceCarry c).config = s.config := by cases c <;> rfl
@[simp] theorem forceCarry_schedule (c : Bool) : (s.forceCarry c).schedule = s.schedule := by cases c <;> rfl
@[simp] theorem forceCarry_loadable (c : Bool) : (s.forceCarry c).loadable = s.loadable := by cases c <;> rfl
@[simp] theorem forceCarry_returned (c : Bool) : (s.forceCarry c).returned = s.returned := by cases c <;> rfl
@[simp] theorem forceCarry_diags (c : Bool) : (s.forceCarry c).diags = s.diags := by cases c <;> rfl

/-! `jumpIf` writes pc and nothing else. -/

@[simp] theorem jumpIf_a (cond : Cond) (x : Word) : (s.jumpIf cond x).a = s.a := by rw [jumpIf_eq]; split <;> rfl
@[simp] theorem jumpIf_b (cond : Cond) (x : Word) : (s.jumpIf cond x).b = s.b := by rw [jumpIf_eq]; split <;> rfl
@[simp] theorem jumpIf_c (cond : Cond) (x : Word) : (s.jumpIf cond x).c = s.c := by rw [jumpIf_eq]; split <;> rfl
@[simp] theorem jumpIf_d (cond : Cond) (x : Word) : (s.jumpIf cond x).d = s.d := by rw [jumpIf_eq]; split <;> rfl
@[simp] theorem jumpIf_e (cond : Cond) (x : Word) : (s.jumpIf cond x).e = s.e := by rw [jumpIf_eq]; split <;> rfl
@[simp] theorem jumpIf_h (cond : Cond) (x : Word) : (s.jumpIf cond x).h = s.h := by rw [jumpIf_eq]; split <;> rfl
@[simp] theorem jumpIf_l (cond : Cond) (x : Word) : (s.jumpIf cond x).l = s.l := by rw [jumpIf_eq]; split <;> rfl
@[simp] theorem jumpIf_f (cond : Cond) (x : Word) : (s.jumpIf cond x).f = s.f := by rw [jumpIf_eq]; split <;> rfl
@[simp] theorem jumpIf_sp (cond : Cond) (x : Word) : (s.jumpIf cond x).sp = s.sp := by rw [jumpIf_eq]; split <;> rfl
@[simp] theorem jumpIf_mem (cond : Cond) (x : Word) : (s.jumpIf cond x).mem = s.mem := by rw [jumpIf_eq]; split <;> rfl
@[simp] theorem jumpIf_ie (cond : Cond) (x : Word) : (s.jumpIf cond x).ie = s.ie := by rw [jumpIf_eq]; split <;> rfl
@[simp] theorem jumpIf_shift (cond : Cond) (x : Word) : (s.jumpIf cond x).shift = s.shift := by rw [jumpIf_eq]; split <;> rfl
@[simp] theorem jumpIf_shoff (cond : Cond) (x : Word) : (s.jumpIf cond x).shoff = s.shoff := by rw [jumpIf_eq]; split <;> rfl
@[simp] theorem jumpIf_inp1 (cond : Cond) (x : Word) : (s.jumpIf cond x).inp1 = s.inp1 := by rw [jumpIf_eq]; split <;> rfl
@[simp] theorem jumpIf_inp2 (cond : Cond) (x : Word) : (s.jumpIf cond x).inp2 = s.inp2 := by rw [jumpIf_eq]; split <;> rfl
@[simp] theorem jumpIf_wpin (cond : Cond) (x : Word) : (s.jumpIf cond x).wpin = s.wpin := by rw [jumpIf_eq]; split <;> rfl
@[simp] theorem jumpIf_wmin (cond : Cond) (x : Word) : (s.jumpIf cond x).wmin = s.wmin := by rw [jumpIf_eq]; split <;> rfl
@[simp] theorem jumpIf_wmax (cond : Cond) (x : Word) : (s.jumpIf cond x).wmax = s.wmax := by rw [jumpIf_eq]; split <;> rfl
@[simp] theorem jumpIf_config (cond : Cond) (x : Word) : (s.jumpIf cond x).config = s.config := by rw [jumpIf_eq]; split <;> rfl
@[simp] theorem jumpIf_schedule (cond : Cond) (x : Word) : (s.jumpIf cond x).schedule = s.schedule := by rw [jumpIf_eq]; split <;> rfl
@[simp] theorem jumpIf_loadable (cond : Cond) (x : Word) : (s.jumpIf cond x).loadable = s.loadable := by rw [jumpIf_eq]; split <;> rfl
@[simp] theorem jumpIf_returned (cond : Cond) (x : Word) : (s.jumpIf cond x).returned = s.returned := by rw [jumpIf_eq]; split <;> rfl
@[simp] theorem jumpIf_diags (cond : Cond) (x : Word) : (s.jumpIf cond x).diags = s.diags := by rw [jumpIf_eq]; split <;> rfl

/-! `callIf` writes sp, mem, pc and nothing else. -/

@[simp] theorem callIf_a (cond : Cond) (x : Word) : (s.callIf cond x).a = s.a := by rw [callIf_eq]; split <;> rfl
@[simp] theorem callIf_b (cond : Cond) (x : Word) : (s.callIf cond x).b = s.b := by rw [callIf_eq]; split <;> rfl
@[simp] theorem callIf_c (cond : Cond) (x : Word) : (s.callIf cond x).c = s.c := by rw [callIf_eq]; split <;> rfl
@[simp] theorem callIf_d (cond : Cond) (x : Word) : (s.callIf cond x).d = s.d := by rw [callIf_eq]; split <;> rfl
@[simp] theorem callIf_e (cond : Cond) (x : Word) : (s.callIf cond x).e = s.e := by rw [callIf_eq]; split <;> rfl
@[simp] theorem callIf_h (cond : Cond) (x : Word) : (s.callIf cond x).h = s.h := by rw [callIf_eq]; split <;> rfl
@[simp] theorem callIf_l (cond : Cond) (x : Word) : (s.callIf cond x).l = s.l := by rw [callIf_eq]; split <;> rfl
@[simp] theorem callIf_f (cond : Cond) (x : Word) : (s.callIf cond x).f = s.f := by rw [callIf_eq]; split <;> rfl
@[simp] theorem callIf_ie (cond : Cond) (x : Word) : (s.callIf cond x).ie = s.ie := by rw [callIf_eq]; split <;> rfl
@[simp] theorem callIf_shift (cond : Cond) (x : Word) : (s.callIf cond x).shift = s.shift := by rw [callIf_eq]; split <;> rfl
@[simp] theorem callIf_shoff (cond : Cond) (x : Word) : (s.callIf cond x).shoff = s.shoff := by rw [callIf_eq]; split <;> rfl
@[simp] theorem callIf_inp1 (cond : Cond) (x : Word) : (s.callIf cond x).inp1 = s.inp1 := by rw [callIf_eq]; split <;> rfl
@[simp] theorem callIf_inp2 (cond : Cond) (x : Word) : (s.callIf cond x).inp2 = s.inp2 := by rw [callIf_eq]; split <;> rfl
@[simp] theorem callIf_wpin (cond : Cond) (x : Word) : (s.callIf cond x).wpin = s.wpin := by rw [callIf_eq]; split <;> rfl
@[simp] theorem callIf_wmin (cond : Cond) (x : Word) : (s.callIf cond x).wmin = s.wmin := by rw [callIf_eq]; split <;> rfl
@[simp] theorem callIf_wmax (cond : Cond) (x : Word) : (s.callIf cond x).wmax = s.wmax := by rw [callIf_eq]; split <;> rfl
@[simp] theorem callIf_config (cond : Cond) (x : Word) : (s.callIf cond x).config = s.config := by rw [callIf_eq]; split <;> rfl
@[simp] theorem callIf_schedule (cond : Cond) (x : Word) : (s.callIf cond x).schedule = s.schedule := by rw [callIf_eq]; split <;> rfl
@[simp] theorem callIf_loadable (cond : Cond) (x : Word) : (s.callIf cond x).loadable = s.loadable := by rw [callIf_eq]; split <;> rfl
@[simp] theorem callIf_returned (cond : Cond) (x : Word) : (s.callIf cond x).returned = s.returned := by rw [callIf_eq]; split <;> rfl
@[simp] theorem callIf_diags (cond : Cond) (x : Word) : (s.callIf cond x).diags = s.diags := by rw [callIf_eq]; split <;> rfl

/-! `returnIf` writes sp, pc and nothing else. -/

@[simp] theorem returnIf_a (cond : Cond) : (s.returnIf cond).a = s.a := by rw [returnIf_eq]; split <;> rfl
@[simp] theorem returnIf_b (cond : Cond) : (s.returnIf cond).b = s.b := by rw [returnIf_eq]; split <;> rfl
@[simp] theorem returnIf_c (cond : Cond) : (s.returnIf cond).c = s.c := by rw [returnIf_eq]; split <;> rfl
@[simp] theorem returnIf_d (cond : Cond) : (s.returnIf cond).d = s.d := by rw [returnIf_eq]; split <;> rfl
@[simp] theorem returnIf_e (cond : Cond) : (s.returnIf cond).e = s.e := by rw [returnIf_eq]; split <;> rfl
@[simp] theorem returnIf_h (cond : Cond) : (s.returnIf cond).h = s.h := by rw [returnIf_eq]; split <;> rfl
@[simp] theorem returnIf_l (cond : Cond) : (s.returnIf cond).l = s.l := by rw [returnIf_eq]; split <;> rfl
@[simp] theorem returnIf_f (cond : Cond) : (s.returnIf cond).f = s.f := by rw [returnIf_eq]; split <;> rfl
@[simp] theorem returnIf_mem (cond : Cond) : (s.returnIf cond).mem = s.mem := by rw [returnIf_eq]; split <;> rfl
@[simp] theorem returnIf_ie (cond : Cond) : (s.returnIf cond).ie = s.ie := by rw [returnIf_eq]; split <;> rfl
@[simp] theorem returnIf_shift (cond : Cond) : (s.returnIf cond).shift = s.shift := by rw [returnIf_eq]; split <;> rfl
@[simp] theorem returnIf_shoff (cond : Cond) : (s.returnIf cond).shoff = s.shoff := by rw [returnIf_eq]; split <;> rfl
@[simp] theorem returnIf_inp1 (cond : Cond) : (s.returnIf cond).inp1 = s.inp1 := by rw [returnIf_eq]; split <;> rfl
@[simp] theorem returnIf_inp2 (cond : Cond) : (s.returnIf cond).inp2 = s.inp2 := by rw [returnIf_eq]; split <;> rfl
@[simp] theorem returnIf_wpin (cond : Cond) : (s.returnIf cond).wpin = s.wpin := by rw [returnIf_eq]; split <;> rfl
@[simp] theorem returnIf_wmin (cond : Cond) : (s.returnIf cond).wmin = s.wmin := by rw [returnIf_eq]; split <;> rfl
@[simp] theorem returnIf_wmax (cond : Cond) : (s.returnIf cond).wmax = s.wmax := by rw [returnIf_eq]; split <;> rfl
@[simp] theorem returnIf_config (cond : Cond) : (s.returnIf cond).config = s.config := by rw [returnIf_eq]; split <;> rfl
@[simp] theorem returnIf_schedule (cond : Cond) : (s.returnIf cond).schedule = s.schedule := by rw [returnIf_eq]; split <;> rfl
@[simp] theorem returnIf_loadable (cond : Cond) : (s.returnIf cond).loadable = s.loadable := by rw [returnIf_eq]; split <;> rfl
@[simp] theorem returnIf_returned (cond : Cond) : (s.returnIf cond).returned = s.returned := by rw [returnIf_eq]; split <;> rfl
@[simp] theorem returnIf_diags (cond : Cond) : (s.returnIf cond).diags = s.diags := by rw [returnIf_eq]; split <;> rfl

end State

end Sys2Proof.Machine
end

