-- ==== Sys2Proof/Laws/Memory.lean ====
section
/-! SUPPORT. The byte store: reading after writing, and that every operation keeps the canonical form (20_memory.md R50,
R51). The read laws hold of every list, canonical or not. -/

namespace Sys2Proof.Machine

theorem Memory.read_erase (m : Memory) (x y : Nat) :
    (m.erase x).read y = if y = x then 0 else m.read y := by
  induction m with
  | nil => simp [Memory.erase, Memory.read]
  | cons cell m ih =>
    obtain ⟨k, w⟩ := cell
    unfold Memory.erase at ih ⊢
    by_cases hk : k = x
    · rw [List.filter_cons_of_neg (by simp [hk]), ih]
      split
      · rfl
      · rename_i hy
        rw [Memory.read, if_neg (by omega)]
    · rw [List.filter_cons_of_pos (by simpa using hk), Memory.read, ih, Memory.read]
      by_cases hy : k = y
      · simp [hy ▸ hk, hy]
      · simp [hy]

theorem Memory.read_insert (m : Memory) (x y : Nat) (v : Byte) (hx : Memory.read m x = 0 ∧ ∀ c ∈ m, c.1 ≠ x) :
    (m.insert x v).read y = if y = x then v else m.read y := by
  induction m with
  | nil =>
    simp only [Memory.insert, Memory.read]
    split <;> split <;> first | rfl | omega
  | cons cell m ih =>
    obtain ⟨k, w⟩ := cell
    have hk : k ≠ x := hx.2 _ List.mem_cons_self
    have hm : Memory.read m x = 0 ∧ ∀ c ∈ m, c.1 ≠ x :=
      ⟨by simpa [Memory.read, hk] using hx.1, fun c hc => hx.2 c (List.mem_cons_of_mem _ hc)⟩
    unfold Memory.insert
    split
    · simp only [Memory.read, eq_comm]
    · simp only [Memory.read, ih hm]
      by_cases h : k = y
      · simp [h ▸ hk, h]
      · simp [h]

/-- Read after write (20_memory.md R51): the address written reads as the value, and every other address reads as before. -/
@[simp] theorem Memory.read_write (m : Memory) (x y : Nat) (v : Byte) :
    (m.write x v).read y = if y = x then v else m.read y := by
  unfold Memory.write
  split
  · rename_i hv
    rw [Memory.read_erase, hv]
  · rw [Memory.read_insert _ _ _ _ ⟨by simp [Memory.read_erase], by simp [Memory.erase]⟩, Memory.read_erase]
    split <;> simp_all

theorem Memory.read_load (m : Memory) (x : Nat) (bytes : List Byte) (y : Nat) :
    (m.load x bytes).read y = if h : x ≤ y ∧ y - x < bytes.length then bytes[y - x] else m.read y := by
  induction bytes generalizing m x with
  | nil => simp [Memory.load]
  | cons v bytes ih =>
    rw [Memory.load, ih, Memory.read_write]
    by_cases h1 : y = x
    · subst h1
      simp
    · by_cases h2 : x + 1 ≤ y ∧ y - (x + 1) < bytes.length
      · have h3 : x ≤ y ∧ y - x < (v :: bytes).length := by simp only [List.length_cons]; omega
        rw [dif_pos h2, dif_pos h3]
        have h4 : y - x = (y - (x + 1)) + 1 := by omega
        simp only [h4, List.getElem_cons_succ]
      · have h3 : ¬(x ≤ y ∧ y - x < (v :: bytes).length) := by simp only [List.length_cons]; omega
        rw [dif_neg h2, dif_neg h3, if_neg h1]

/-! ### The canonical form -/

theorem Memory.wfFrom_mono {bound low low' : Nat} {m : Memory} (h : Memory.wfFrom bound low m = true) (hl : low' ≤ low) :
    Memory.wfFrom bound low' m = true := by
  cases m with
  | nil => rfl
  | cons cell m =>
    simp only [Memory.wfFrom, Bool.and_eq_true, decide_eq_true_eq] at h ⊢
    exact ⟨⟨⟨by omega, h.1.1.2⟩, h.1.2⟩, h.2⟩

theorem Memory.wfFrom_erase {bound low : Nat} {m : Memory} (x : Nat) (h : Memory.wfFrom bound low m = true) :
    Memory.wfFrom bound low (m.erase x) = true := by
  induction m generalizing low with
  | nil => rfl
  | cons cell m ih =>
    simp only [Memory.wfFrom, Bool.and_eq_true, decide_eq_true_eq] at h
    unfold Memory.erase at ih ⊢
    by_cases hk : cell.1 = x
    · rw [List.filter_cons_of_neg (by simp [hk])]
      exact Memory.wfFrom_mono (ih h.2) (by omega)
    · rw [List.filter_cons_of_pos (by simpa using hk)]
      simp only [Memory.wfFrom, Bool.and_eq_true, decide_eq_true_eq]
      exact ⟨h.1, ih h.2⟩

theorem Memory.wfFrom_insert {bound low : Nat} {m : Memory} {x : Nat} {v : Byte} (h : Memory.wfFrom bound low m = true)
    (hx : ∀ c ∈ m, c.1 ≠ x) (hv : v ≠ 0) (hl : low ≤ x) (hb : x < bound) :
    Memory.wfFrom bound low (m.insert x v) = true := by
  induction m generalizing low with
  | nil => simpa [Memory.insert, Memory.wfFrom, hl, hb] using hv
  | cons cell m ih =>
    obtain ⟨k, w⟩ := cell
    simp only [Memory.wfFrom, Bool.and_eq_true, decide_eq_true_eq] at h
    have hk : k ≠ x := hx _ List.mem_cons_self
    unfold Memory.insert
    split
    · rename_i hlt
      simp only [Memory.wfFrom, Bool.and_eq_true, decide_eq_true_eq]
      exact ⟨⟨⟨hl, hb⟩, hv⟩, ⟨⟨hlt, h.1.1.2⟩, h.1.2⟩, h.2⟩
    · simp only [Memory.wfFrom, Bool.and_eq_true, decide_eq_true_eq]
      exact ⟨h.1, ih h.2 (fun c hc => hx c (List.mem_cons_of_mem _ hc)) (by omega)⟩

/-- A write keeps the canonical form. -/
theorem Memory.wf_write {m : Memory} (h : m.wf = true) {x : Nat} (hx : x < memorySize) (v : Byte) :
    (m.write x v).wf = true := by
  unfold Memory.wf Memory.write at *
  split
  · exact Memory.wfFrom_erase x h
  · exact Memory.wfFrom_insert (Memory.wfFrom_erase x h) (by simp [Memory.erase]) ‹_› (Nat.zero_le _) hx

/-- Loading an image that fits keeps the canonical form. -/
theorem Memory.wf_load {m : Memory} (h : m.wf = true) (x : Nat) (bytes : List Byte) (hx : x + bytes.length ≤ memorySize) :
    (m.load x bytes).wf = true := by
  induction bytes generalizing m x with
  | nil => exact h
  | cons v bytes ih =>
    simp only [List.length_cons] at hx
    exact ih (Memory.wf_write h (by omega) v) (x + 1) (by omega)

theorem toNat_lt_memorySize (x : Word) : x.toNat < memorySize := x.isLt

/-! ### Through the state -/

/-- `MemRead` after `MemWrite` (20_memory.md R50, R51). -/
@[simp] theorem State.memRead_memWrite (s : State) (x y : Word) (v : Byte) :
    (s.memWrite x v).memRead y = if y = x then v else s.memRead y := by
  simp [State.memRead, State.memWrite, ← BitVec.toNat_inj]

theorem State.memWrite_wf {s : State} (h : Memory.wf s.mem = true) (x : Word) (v : Byte) :
    Memory.wf (s.memWrite x v).mem = true :=
  Memory.wf_write h (toNat_lt_memorySize x) v

/-- Two states with the same memory read the same. -/
theorem State.memRead_congr {s t : State} (h : s.mem = t.mem) (x : Word) : s.memRead x = t.memRead x := by
  simp [State.memRead, h]

end Sys2Proof.Machine
end

