-- ==== Sys2Proof/Laws/Fetch.lean ====
section
/-! SUPPORT. The instruction stream (40_dispatch.md R101, R102): a fetch reads the guarded byte at pc, and an instruction is
the one that the three guarded bytes at pc decode to; and what the range of CYCLES says of one opcode byte (70_reset_and_hazards.md
R270). -/

namespace Sys2Proof

/-- The decoder on an opcode byte with two bytes after it: the instruction of the opcode map, and the bytes it leaves. -/
theorem decode_cons3 (op b1 b2 : Byte) (rest : List Byte) :
    decode (op :: b1 :: b2 :: rest) =
      .ok (decodeBytes op b1 b2, (b1 :: b2 :: rest).drop (instrLength op - 1)) := by
  cases h : formOf op <;> simp [decode, decodeBytes, instrLength, h, Form.build, Form.length]

theorem Form.length_pos (x : Form) : 1 ≤ x.length := by cases x <;> simp [Form.length]

theorem Form.length_le (x : Form) : x.length ≤ 3 := by cases x <;> simp [Form.length]

namespace Machine.State

theorem pcAfter_zero (s : State) : s.pcAfter 0 = s.pc := by
  apply BitVec.eq_of_toNat_eq
  have := s.pc.isLt
  simp only [pcAfter, BitVec.toNat_ofNat]
  omega

theorem toNat_pcAfter (s : State) (n : Nat) : (s.pcAfter n).toNat = min (s.pc.toNat + n) 0xFFFF := by
  simp only [pcAfter, BitVec.toNat_ofNat]
  omega

/-- Fetches add up. -/
theorem pcAfter_pcAfter (s : State) (n k : Nat) : ({ s with pc := s.pcAfter n } : State).pcAfter k = s.pcAfter (n + k) := by
  apply BitVec.eq_of_toNat_eq
  simp only [toNat_pcAfter]
  omega

/-- The bytes after some fetches are the later bytes of the stream. -/
theorem streamByte_pcAfter (s : State) (n k : Nat) :
    ({ s with pc := s.pcAfter n } : State).streamByte k = s.streamByte (n + k) := by
  unfold streamByte
  simp only [toNat_pcAfter]
  by_cases h : s.pc.toNat + (n + k) < 0xFFFF
  · rw [if_pos h, if_pos (by omega)]
    show s.memRead _ = s.memRead _
    congr 1
    apply BitVec.eq_of_toNat_eq
    simp only [BitVec.toNat_add, BitVec.toNat_ofNat, toNat_pcAfter]
    omega
  · rw [if_neg h, if_neg (by omega)]

/-- `Fetch8` reads the guarded byte and moves pc by one, or not at all at 0xFFFF (40_dispatch.md R101). -/
theorem fetch8_eq (s : State) : s.fetch8 = (s.streamByte 0, { s with pc := s.pcAfter 1 }) := by
  have hlt := s.pc.isLt
  by_cases h : s.pc = 0xFFFF
  · have hn : s.pc.toNat = 0xFFFF := by rw [h]; rfl
    have h1 : s.pcAfter 1 = s.pc := BitVec.eq_of_toNat_eq (by rw [toNat_pcAfter]; omega)
    rw [h1, fetch8, if_pos h, streamByte, if_neg (by omega)]
  · have hn : s.pc.toNat ≠ 0xFFFF := fun he => h (BitVec.eq_of_toNat_eq he)
    have h1 : s.pcAfter 1 = s.pc + 1 := by
      apply BitVec.eq_of_toNat_eq
      rw [toNat_pcAfter, BitVec.toNat_add]
      show _ = (s.pc.toNat + 1) % 65536
      omega
    rw [h1, fetch8, if_neg h, streamByte, if_pos (by omega), BitVec.ofNat_eq_ofNat, BitVec.add_zero]

@[simp] theorem opcode_eq (s : State) : s.opcode = s.streamByte 0 := by
  rw [opcode, fetch8_eq]

/-- What `Step` executes, and where pc stands when it does (40_dispatch.md R100, R102). -/
theorem fetchInstr_eq (s : State) :
    s.fetchInstr = (decodeBytes (s.streamByte 0) (s.streamByte 1) (s.streamByte 2),
      { s with pc := s.pcAfter (instrLength (s.streamByte 0)) }) := by
  unfold fetchInstr decodeBytes instrLength
  rw [opcode_eq, fetch8_eq]
  cases formOf (s.streamByte 0) with
  | f1 i => rfl
  | f2 make =>
    simp only [fetchOperands, Form.build, Form.length, fetch8_eq, streamByte_pcAfter, pcAfter_pcAfter]
  | f3 make =>
    simp only [fetchOperands, Form.build, Form.length, fetch8_eq, streamByte_pcAfter, pcAfter_pcAfter, word]

end Machine.State

/-- Parameters in their range give every opcode byte an allowed cost, as `State.stepCost` looks it up. -/
theorem Config.costAllowed_of_wf {config : Config} (h : config.wf = true) (op : Byte) :
    costAllowed op (config.cycles.getD op.toNat 1) = true := by
  simp only [Config.wf, Bool.and_eq_true, decide_eq_true_eq, List.all_eq_true, List.mem_range] at h
  obtain ⟨⟨length, allowed⟩, -⟩ := h
  have := allowed op.toNat op.isLt
  have hlt : op.toNat < config.cycles.length := by have := op.isLt; omega
  simpa [List.getD_eq_getElem?_getD, List.getElem?_eq_getElem hlt] using this

end Sys2Proof
end

