-- ==== Sys2Proof/Laws/Flags.lean ====
section
/-! SUPPORT. The flag primitives bit by bit (10_state.md R27 to R31): what each writes, and that it keeps every other bit. -/

namespace Sys2Proof.Machine

/-- Writing one bit writes that bit and keeps every other. -/
theorem getLsbD_setBit (f : Byte) (i : Nat) (v : Bool) (k : Nat) (hi : i < 8) :
    (setBit f i v).getLsbD k = if k = i then v else f.getLsbD k := by
  unfold setBit
  by_cases hk : k < 8
  · cases v <;> by_cases h : k = i <;> simp [hk, h, hi] <;> omega
  · rw [BitVec.getLsbD_of_ge _ _ (by omega), BitVec.getLsbD_of_ge _ _ (by omega), if_neg (by omega)]

/-- `SetCY` writes bits 0 and 2 and keeps every other (10_state.md R29). -/
theorem getLsbD_setCY (f : Byte) (c : Bool) (k : Nat) :
    (setCY f c).getLsbD k = if k = 0 ∨ k = 2 then c else f.getLsbD k := by
  unfold setCY
  rw [getLsbD_setBit _ _ _ _ (by omega), getLsbD_setBit _ _ _ _ (by omega)]
  by_cases h0 : k = 0 <;> by_cases h2 : k = 2 <;> simp [h0, h2]

/-- `SetZSP` writes bits 5, 6 and 7 and keeps every other (10_state.md R28). -/
theorem getLsbD_setZSP (f : Byte) (t : Int) (k : Nat) :
    (setZSP f t).getLsbD k =
      if k = 5 then decide (popcount (low8 t) % 2 = 0)
      else if k = 7 then decide ((low8 t).toNat > 0x7F)
      else if k = 6 then decide (low8 t = 0)
      else f.getLsbD k := by
  unfold setZSP
  rw [getLsbD_setBit _ _ _ _ (by omega), getLsbD_setBit _ _ _ _ (by omega), getLsbD_setBit _ _ _ _ (by omega)]

@[simp] theorem flagC_setCY (f : Byte) (c : Bool) : flagC (setCY f c) = c := by unfold flagC; rw [getLsbD_setCY]; rfl
@[simp] theorem flagAC_setCY (f : Byte) (c : Bool) : flagAC (setCY f c) = c := by unfold flagAC; rw [getLsbD_setCY]; rfl
@[simp] theorem flagP_setCY (f : Byte) (c : Bool) : flagP (setCY f c) = flagP f := by unfold flagP; rw [getLsbD_setCY]; rfl
@[simp] theorem flagZ_setCY (f : Byte) (c : Bool) : flagZ (setCY f c) = flagZ f := by unfold flagZ; rw [getLsbD_setCY]; rfl
@[simp] theorem flagS_setCY (f : Byte) (c : Bool) : flagS (setCY f c) = flagS f := by unfold flagS; rw [getLsbD_setCY]; rfl
@[simp] theorem flagC_setZSP (f : Byte) (t : Int) : flagC (setZSP f t) = flagC f := by unfold flagC; rw [getLsbD_setZSP]; rfl
@[simp] theorem flagAC_setZSP (f : Byte) (t : Int) : flagAC (setZSP f t) = flagAC f := by unfold flagAC; rw [getLsbD_setZSP]; rfl
@[simp] theorem flagP_setZSP (f : Byte) (t : Int) : flagP (setZSP f t) = decide (popcount (low8 t) % 2 = 0) := by
  unfold flagP; rw [getLsbD_setZSP]; rfl
@[simp] theorem flagZ_setZSP (f : Byte) (t : Int) : flagZ (setZSP f t) = decide (low8 t = 0) := by
  unfold flagZ; rw [getLsbD_setZSP]; rfl
@[simp] theorem flagS_setZSP (f : Byte) (t : Int) : flagS (setZSP f t) = decide ((low8 t).toNat > 0x7F) := by
  unfold flagS; rw [getLsbD_setZSP]; rfl

/-- `low8` of a byte read as an integer is that byte. -/
@[simp] theorem low8_toNat (v : Byte) : low8 v.toNat = v := by
  simp [low8]

/-- `low8(t)` as a number is t modulo 256 (00_scope.md R8). -/
theorem toNat_low8 (t : Int) : ((low8 t).toNat : Int) = t % 256 := by
  simp [low8, BitVec.toNat_ofInt]
  omega

end Sys2Proof.Machine
end

