-- ==== Sys2Proof/Laws/PerInstr.lean ====
section
/-! SUPPORT. Facts stated instruction by instruction, one lemma per constructor of `Instr`. -/

/-! Family EncodeHead: the first byte of a well-formed instruction's encoding gives the length of the whole encoding
(30_encoding.md R80: "a decoder tells the length from byte 0 alone"). -/

namespace Sys2Proof.Laws.EncodeHead

/-- The opcode byte alone gives the number of bytes of the instruction. -/
def Statement (i : Instr) : Prop :=
  i.wf = true → instrLength ((encode i).headD 0) = (encode i).length

theorem of_bytes3 {op : Byte} (h : instrLength op = 3) (v : Word) :
    instrLength ((bytes3 op v).headD 0) = (bytes3 op v).length := h

theorem of_bytes2 {op : Byte} (h : instrLength op = 2) (v : Byte) :
    instrLength ([op, v].headD 0) = [op, v].length := h

theorem nop : Statement (.nop) := fun _ => rfl

theorem lxi (p : Pair) (v : Word) : Statement (.lxi p v) := by
  intro _
  cases p <;> exact of_bytes3 (by decide) v

theorem stax (p : IndPair) : Statement (.stax p) := by
  intro _
  cases p <;> rfl

theorem inx (p : Pair) : Statement (.inx p) := by
  intro _
  cases p <;> rfl

theorem inr (r : Reg8) : Statement (.inr r) := by
  intro _
  cases r <;> rfl

theorem dcr (r : Reg8) : Statement (.dcr r) := by
  intro _
  cases r <;> rfl

theorem mvi (r : Reg8) (v : Byte) : Statement (.mvi r v) := by
  intro _
  cases r <;> exact of_bytes2 (by decide) v

theorem rlc : Statement (.rlc) := fun _ => rfl

theorem unrecognised (op : Byte) : Statement (.unrecognised op) := by
  intro h
  simp only [Instr.wf, unrecognisedBytes, List.contains_iff_mem, List.mem_cons, List.not_mem_nil, or_false] at h
  rcases h with h | h | h | h | h | h | h | h | h | h | h | h | h <;> subst h <;> rfl

theorem dad (p : Pair) : Statement (.dad p) := by
  intro _
  cases p <;> rfl

theorem ldax (p : IndPair) : Statement (.ldax p) := by
  intro _
  cases p <;> rfl

theorem dcx (p : Pair) : Statement (.dcx p) := by
  intro _
  cases p <;> rfl

theorem rrc : Statement (.rrc) := fun _ => rfl

theorem ral : Statement (.ral) := fun _ => rfl

theorem rar : Statement (.rar) := fun _ => rfl

theorem shld (addr : Word) : Statement (.shld addr) := fun _ => of_bytes3 (by decide) addr

theorem daa : Statement (.daa) := fun _ => rfl

theorem lhld (addr : Word) : Statement (.lhld addr) := fun _ => of_bytes3 (by decide) addr

theorem cma : Statement (.cma) := fun _ => rfl

theorem sta (addr : Word) : Statement (.sta addr) := fun _ => of_bytes3 (by decide) addr

theorem stc : Statement (.stc) := fun _ => rfl

theorem lda (addr : Word) : Statement (.lda addr) := fun _ => of_bytes3 (by decide) addr

theorem cmc : Statement (.cmc) := fun _ => rfl

theorem mov (dst src : Reg8) : Statement (.mov dst src) := by
  intro _
  cases dst <;> cases src <;> rfl

theorem add (r : Reg8) : Statement (.add r) := by
  intro _
  cases r <;> rfl

theorem adc (r : Reg8) : Statement (.adc r) := by
  intro _
  cases r <;> rfl

theorem sub (r : Reg8) : Statement (.sub r) := by
  intro _
  cases r <;> rfl

theorem sbb (r : Reg8) : Statement (.sbb r) := by
  intro _
  cases r <;> rfl

theorem ana (r : Reg8) : Statement (.ana r) := by
  intro _
  cases r <;> rfl

theorem xra (r : Reg8) : Statement (.xra r) := by
  intro _
  cases r <;> rfl

theorem ora (r : Reg8) : Statement (.ora r) := by
  intro _
  cases r <;> rfl

theorem cmp (r : Reg8) : Statement (.cmp r) := by
  intro _
  cases r <;> rfl

theorem rnz : Statement (.rnz) := fun _ => rfl

theorem pop (q : StackPair) : Statement (.pop q) := by
  intro _
  cases q <;> rfl

theorem jnz (addr : Word) : Statement (.jnz addr) := fun _ => of_bytes3 (by decide) addr

theorem jmp (addr : Word) : Statement (.jmp addr) := fun _ => of_bytes3 (by decide) addr

theorem cnz (addr : Word) : Statement (.cnz addr) := fun _ => of_bytes3 (by decide) addr

theorem push (q : StackPair) : Statement (.push q) := by
  intro _
  cases q <;> rfl

theorem adi (v : Byte) : Statement (.adi v) := fun _ => of_bytes2 (by decide) v

theorem rst (n : BitVec 3) : Statement (.rst n) := by
  intro _
  revert n
  decide

theorem rz : Statement (.rz) := fun _ => rfl

theorem ret : Statement (.ret) := fun _ => rfl

theorem jz (addr : Word) : Statement (.jz addr) := fun _ => of_bytes3 (by decide) addr

theorem cz (addr : Word) : Statement (.cz addr) := fun _ => of_bytes3 (by decide) addr

theorem call (addr : Word) : Statement (.call addr) := fun _ => of_bytes3 (by decide) addr

theorem aci (v : Byte) : Statement (.aci v) := fun _ => of_bytes2 (by decide) v

theorem rnc : Statement (.rnc) := fun _ => rfl

theorem jnc (addr : Word) : Statement (.jnc addr) := fun _ => of_bytes3 (by decide) addr

theorem outPort (port : Byte) : Statement (.outPort port) := fun _ => of_bytes2 (by decide) port

theorem cnc (addr : Word) : Statement (.cnc addr) := fun _ => of_bytes3 (by decide) addr

theorem sui (v : Byte) : Statement (.sui v) := fun _ => of_bytes2 (by decide) v

theorem rc : Statement (.rc) := fun _ => rfl

theorem jc (addr : Word) : Statement (.jc addr) := fun _ => of_bytes3 (by decide) addr

theorem inPort (port : Byte) : Statement (.inPort port) := fun _ => of_bytes2 (by decide) port

theorem cc (addr : Word) : Statement (.cc addr) := fun _ => of_bytes3 (by decide) addr

theorem sbi (v : Byte) : Statement (.sbi v) := fun _ => of_bytes2 (by decide) v

theorem rpo : Statement (.rpo) := fun _ => rfl

theorem jpo (addr : Word) : Statement (.jpo addr) := fun _ => of_bytes3 (by decide) addr

theorem xthl : Statement (.xthl) := fun _ => rfl

theorem cpo (addr : Word) : Statement (.cpo addr) := fun _ => of_bytes3 (by decide) addr

theorem ani (v : Byte) : Statement (.ani v) := fun _ => of_bytes2 (by decide) v

theorem rpe : Statement (.rpe) := fun _ => rfl

theorem pchl : Statement (.pchl) := fun _ => rfl

theorem jpe (addr : Word) : Statement (.jpe addr) := fun _ => of_bytes3 (by decide) addr

theorem xchg : Statement (.xchg) := fun _ => rfl

theorem cpe (addr : Word) : Statement (.cpe addr) := fun _ => of_bytes3 (by decide) addr

theorem xri (v : Byte) : Statement (.xri v) := fun _ => of_bytes2 (by decide) v

theorem rp : Statement (.rp) := fun _ => rfl

theorem jp (addr : Word) : Statement (.jp addr) := fun _ => of_bytes3 (by decide) addr

theorem di : Statement (.di) := fun _ => rfl

theorem cp (addr : Word) : Statement (.cp addr) := fun _ => of_bytes3 (by decide) addr

theorem ori (v : Byte) : Statement (.ori v) := fun _ => of_bytes2 (by decide) v

theorem rm : Statement (.rm) := fun _ => rfl

theorem sphl : Statement (.sphl) := fun _ => rfl

theorem jm (addr : Word) : Statement (.jm addr) := fun _ => of_bytes3 (by decide) addr

theorem ei : Statement (.ei) := fun _ => rfl

theorem cm (addr : Word) : Statement (.cm addr) := fun _ => of_bytes3 (by decide) addr

theorem cpi (v : Byte) : Statement (.cpi v) := fun _ => of_bytes2 (by decide) v

end Sys2Proof.Laws.EncodeHead
end

