-- ==== Sys2Proof/Laws/Stack.lean ====
section
/-! SUPPORT. The Stack Manager (20_memory.md R60 to R65): what a push and a pop of a word do, and how they stand to the stack
window. -/

namespace Sys2Proof.Machine

/-- `hi:lo = hi * 256 + lo` (00_scope.md R6). -/
theorem toNat_word (x y : Byte) : (word x y).toNat = x.toNat * 256 + y.toNat := by
  unfold word
  rw [BitVec.toNat_append, Nat.shiftLeft_eq, ← Nat.mul_comm, ← Nat.two_pow_add_eq_or_of_lt y.isLt]

theorem toNat_hi8 (w : Word) : (hi8 w).toNat = w.toNat / 256 := by
  have := w.isLt
  simp only [hi8, BitVec.extractLsb'_toNat, Nat.shiftRight_eq_div_pow]
  omega

theorem toNat_lo8 (w : Word) : (lo8 w).toNat = w.toNat % 256 := by
  simp [lo8, BitVec.extractLsb'_toNat]

@[simp] theorem word_hi8_lo8 (w : Word) : word (hi8 w) (lo8 w) = w := by
  apply BitVec.eq_of_toNat_eq
  rw [toNat_word, toNat_hi8, toNat_lo8]
  omega

@[simp] theorem hi8_word (x y : Byte) : hi8 (word x y) = x := by
  apply BitVec.eq_of_toNat_eq
  rw [toNat_hi8, toNat_word]
  omega

@[simp] theorem lo8_word (x y : Byte) : lo8 (word x y) = y := by
  apply BitVec.eq_of_toNat_eq
  rw [toNat_lo8, toNat_word]
  omega

namespace State

/-! ### Where the next byte goes -/

theorem pushSlot_congr {s t : State} (hc : t.config = s.config) (hp : t.wpin = s.wpin) (hm : t.wmin = s.wmin)
    (hx : t.wmax = s.wmax) (hs : t.sp = s.sp) : t.pushSlot = s.pushSlot := by
  simp [pushSlot, hc, hp, hm, hx, hs]

theorem popSlot_congr {s t : State} (hc : t.config = s.config) (hp : t.wpin = s.wpin) (hm : t.wmin = s.wmin)
    (hx : t.wmax = s.wmax) (hs : t.sp = s.sp) : t.popSlot = s.popSlot := by
  simp [popSlot, hc, hp, hm, hx, hs]

theorem WindowOk.congr {s t : State} (h : s.WindowOk) (hc : t.config = s.config) (hp : t.wpin = s.wpin)
    (hm : t.wmin = s.wmin) (hx : t.wmax = s.wmax) (hs : t.sp = s.sp) : t.WindowOk := by
  obtain ⟨h1, h2, h3⟩ := h
  constructor <;> simpa [hc, hp, hm, hx, hs]

/-- Without a pinned window, a push moves one down and a pop one up. -/
theorem slots_of_not_pinned {s : State} (h : s.wpin = false) : s.pushSlot = s.sp - 1 ∧ s.popSlot = s.sp + 1 := by
  simp [pushSlot, popSlot, h]

/-- In a pinned window, a push from WMIN goes to WMAX and a pop from WMAX goes to WMIN. -/
theorem slots_of_pinned {s : State} (hc : s.config.stackPolicy = .windowed) (hp : s.wpin = true) :
    (s.pushSlot = if s.sp = s.wmin then s.wmax else s.sp - 1) ∧
      (s.popSlot = if s.sp = s.wmax then s.wmin else s.sp + 1) := by
  simp [pushSlot, popSlot, hc, hp]

/-- A window is pinned only under the windowed policy. -/
theorem WindowOk.windowed {s : State} (h : s.WindowOk) (hp : s.wpin = true) : s.config.stackPolicy = .windowed := by
  cases hc : s.config.stackPolicy with
  | unbounded => simp [(h.unbounded hc).1] at hp
  | windowed => rfl

/-- The shape of the two slots in a state with a good window: free, or on a ring of 256 addresses. -/
theorem WindowOk.slots {s : State} (h : s.WindowOk) :
    (s.wpin = false ∧ s.pushSlot = s.sp - 1 ∧ s.popSlot = s.sp + 1) ∨
      (s.wpin = true ∧ s.wmin = s.wmax - 255 ∧ (s.wmax - s.sp).toNat ≤ 255 ∧
        (s.pushSlot = if s.sp = s.wmin then s.wmax else s.sp - 1) ∧
        (s.popSlot = if s.sp = s.wmax then s.wmin else s.sp + 1)) := by
  cases hp : s.wpin with
  | false => exact .inl ⟨rfl, slots_of_not_pinned hp⟩
  | true => exact .inr ⟨rfl, h.size hp, h.inside hp, slots_of_pinned (h.windowed hp) hp⟩

/-- Moving SP to the next push address keeps a good window. -/
theorem WindowOk.pushSlot {s : State} (h : s.WindowOk) : ({ s with sp := s.pushSlot } : State).WindowOk := by
  refine ⟨h.unbounded, h.size, fun (hp : s.wpin = true) => ?_⟩
  rcases h.slots with ⟨hw, -⟩ | ⟨-, h2, h3, h4, -⟩
  · simp [hp] at hw
  · show (s.wmax - s.pushSlot).toNat ≤ 255
    rw [h4]
    split <;> bv_omega

/-- Moving SP to the next pop address keeps a good window. -/
theorem WindowOk.popSlot {s : State} (h : s.WindowOk) : ({ s with sp := s.popSlot } : State).WindowOk := by
  refine ⟨h.unbounded, h.size, fun (hp : s.wpin = true) => ?_⟩
  rcases h.slots with ⟨hw, -⟩ | ⟨-, h2, h3, -, h4⟩
  · simp [hp] at hw
  · show (s.wmax - s.popSlot).toNat ≤ 255
    rw [h4]
    split <;> bv_omega

/-- Moving one down and then one up comes back. -/
theorem popSlot_after_pushSlot {s : State} (h : s.WindowOk) : ({ s with sp := s.pushSlot } : State).popSlot = s.sp := by
  rcases h.slots with ⟨hw, h1, -⟩ | ⟨hp, h2, h3, h4, -⟩
  · rw [(slots_of_not_pinned (s := { s with sp := s.pushSlot }) hw).2]
    show s.pushSlot + 1 = s.sp
    rw [h1]
    bv_omega
  · rw [(slots_of_pinned (s := { s with sp := s.pushSlot }) (h.windowed hp) hp).2]
    show (if s.pushSlot = s.wmax then s.wmin else s.pushSlot + 1) = s.sp
    by_cases hb : s.sp = s.wmin
    · rw [h4, if_pos hb, if_pos rfl, hb]
    · rw [h4, if_neg hb, if_neg]
      · bv_omega
      · intro he
        rw [show s.sp = s.wmax + 1 by bv_omega] at h3
        bv_omega

/-- Moving one up and then one down comes back. -/
theorem pushSlot_after_popSlot {s : State} (h : s.WindowOk) : ({ s with sp := s.popSlot } : State).pushSlot = s.sp := by
  rcases h.slots with ⟨hw, -, h1⟩ | ⟨hp, h2, h3, -, h4⟩
  · rw [(slots_of_not_pinned (s := { s with sp := s.popSlot }) hw).1]
    show s.popSlot - 1 = s.sp
    rw [h1]
    bv_omega
  · rw [(slots_of_pinned (s := { s with sp := s.popSlot }) (h.windowed hp) hp).1]
    show (if s.popSlot = s.wmin then s.wmax else s.popSlot - 1) = s.sp
    by_cases hb : s.sp = s.wmax
    · rw [h4, if_pos hb, if_pos rfl, hb]
    · rw [h4, if_neg hb, if_neg]
      · bv_omega
      · intro he
        rw [show s.sp = s.wmax - 255 - 1 by bv_omega] at h3
        bv_omega

/-- A push moves SP. -/
theorem pushSlot_ne_sp {s : State} (h : s.WindowOk) : s.pushSlot ≠ s.sp := by
  rcases h.slots with ⟨-, h1, -⟩ | ⟨-, h2, h3, h4, -⟩
  · rw [h1]
    bv_omega
  · rw [h4]
    split <;> bv_omega

/-- A pop moves SP. -/
theorem popSlot_ne_sp {s : State} (h : s.WindowOk) : s.popSlot ≠ s.sp := by
  rcases h.slots with ⟨-, -, h1⟩ | ⟨-, h2, h3, -, h4⟩
  · rw [h1]
    bv_omega
  · rw [h4]
    split <;> bv_omega

/-- `SetPointer` gives a good window, whatever stood before (20_memory.md R60, R65). -/
theorem windowOk_setPointer {s : State} (h : s.WindowOk) (v : Word) : (s.setPointer v).WindowOk := by
  unfold setPointer
  cases hp : s.config.stackPolicy
  · have := h.unbounded hp
    exact ⟨fun _ => this, fun hw => absurd hw (by simp [this.1]), fun hw => absurd hw (by simp [this.1])⟩
  · exact ⟨fun hu => absurd hu (by simp [hp]), fun _ => rfl, fun _ => by simp⟩

/-! ### A word -/

/-- The second address of a `PushWord` is where SP ends. -/
theorem pushWord_sp (s : State) (w : Word) : (s.pushWord w).sp = ({ s with sp := s.pushSlot } : State).pushSlot := rfl

/-- Every byte after `PushWord` (20_memory.md R63). -/
theorem memRead_pushWord (s : State) (w : Word) (x : Word) :
    (s.pushWord w).memRead x =
      if x = (s.pushWord w).sp then lo8 w else if x = s.pushSlot then hi8 w else s.memRead x := by
  have h : (s.pushWord w).memRead x = ((s.memWrite s.pushSlot (hi8 w)).memWrite (s.pushWord w).sp (lo8 w)).memRead x :=
    State.memRead_congr rfl x
  rw [h, memRead_memWrite, memRead_memWrite]

/-- `PopWord` returns the word at the top of the stack (20_memory.md R64). -/
@[simp] theorem popWord_fst (s : State) : s.popWord.1 = s.topWord := rfl

/-- `PopWord` moves SP and changes nothing else (20_memory.md R64). -/
theorem popWord_snd (s : State) : s.popWord.2 = { s with sp := s.spAfterPop } := rfl

@[simp] theorem popWord_sp (s : State) : s.popWord.2.sp = s.spAfterPop := rfl

@[simp] theorem memRead_popWord (s : State) (x : Word) : s.popWord.2.memRead x = s.memRead x := rfl

theorem WindowOk.pushWord {s : State} (h : s.WindowOk) (w : Word) : (s.pushWord w).WindowOk :=
  (h.pushSlot.pushSlot).congr rfl rfl rfl rfl rfl

theorem WindowOk.popWord {s : State} (h : s.WindowOk) : s.popWord.2.WindowOk := h.popSlot.popSlot

/-- Everything `PushWord` does, in the terms of `PushesWord` (20_memory.md R63). -/
theorem pushesWord_pushWord {s : State} (h : s.WindowOk) (w : Word) : PushesWord s (s.pushWord w) w where
  sp := rfl
  high := by
    rw [memRead_pushWord, if_neg, if_pos rfl]
    exact fun he => pushSlot_ne_sp h.pushSlot he.symm
  low := by rw [memRead_pushWord, if_pos rfl]
  memory x h1 h2 := by rw [memRead_pushWord, if_neg h2, if_neg h1]
  rest := rfl

/-- A word pushed is the word popped, and SP comes back (20_memory.md R64), under both policies. -/
theorem popWord_pushWord {s : State} (h : s.WindowOk) (w : Word) :
    (s.pushWord w).topWord = w ∧ (s.pushWord w).spAfterPop = s.sp := by
  have h1 : (s.pushWord w).popSlot = s.pushSlot :=
    (popSlot_congr rfl rfl rfl rfl rfl).trans (popSlot_after_pushSlot h.pushSlot)
  constructor
  · unfold topWord
    rw [h1, (pushesWord_pushWord h w).high, (pushesWord_pushWord h w).low, word_hi8_lo8]
  · unfold spAfterPop
    rw [h1]
    exact (popSlot_congr rfl rfl rfl rfl rfl).trans (popSlot_after_pushSlot h)

end State

end Sys2Proof.Machine
end

