-- ==== Sys2Proof/Tests/Slice0.lean ====
section
/-! SUPPORT. Tests: well-formedness, decoding of words written out from 30_encoding.md R84, single steps with the end states of
spec/95_test_vectors.md (its section is named at each group), and one witness for each statement of
Certificates/Slice0/Obligations.lean that has hypotheses. -/

namespace Sys2Proof.Tests

open Sys2Proof.Machine

/-! ### Well-formedness: each check refuses an ill-formed term -/

theorem test_wf_refuses_mov_m_m : Instr.wf (.mov .m .m) = false := by decide

theorem test_wf_refuses_unrecognised_accepted_byte : Instr.wf (.unrecognised 0x00) = false := by decide

theorem test_wf_accepts : Instr.wf (.mov .m .a) = true ∧ Instr.wf (.mov .a .m) = true ∧ Instr.wf (.unrecognised 0x76) = true := by
  decide

theorem test_wf_config_refuses : Config.wf { Config.default with cycles := [4] } = false ∧
    Config.wf { Config.default with cycles := List.replicate 256 0 } = false ∧
    Config.wf { Config.default with cycles := defaultCycles.set 0x41 99 } = false ∧
    Config.wf { Config.default with cycles := defaultCycles.set 0x46 5 } = false ∧
    Config.wf { Config.default with cycles := defaultCycles.set 0x34 8 } = false ∧
    Config.wf { Config.default with inOther := [(256, 1)] } = false := by
  decide +kernel

theorem test_memory_wf_refuses : Memory.wf [(2, 1), (1, 1)] = false ∧ Memory.wf [(1, 1), (1, 2)] = false ∧
    Memory.wf [(1, 0)] = false ∧ Memory.wf [(0x10000, 1)] = false ∧ Memory.wf [(0, 1), (0xFFFF, 2)] = true := by
  decide

/-! ### Decoding: words written out from the patterns of 30_encoding.md R84 -/

theorem test_decode_move :
    decode [0b01000011] = .ok (.mov .b .e, []) ∧
    decode [0b01001110] = .ok (.mov .c .m, []) ∧
    decode [0b01110100] = .ok (.mov .m .h, []) ∧
    decode [0b01111111] = .ok (.mov .a .a, []) ∧
    decode [0b00110110, 0x3C] = .ok (.mvi .m 0x3C, []) ∧
    decode [0b00010110, 0xFF] = .ok (.mvi .d 0xFF, []) := by
  and_intros <;> rfl

theorem test_decode_dispatch :
    decode [0b00000000] = .ok (.nop, []) ∧
    decode [0b11011101] = .ok (.unrecognised 0xDD, []) ∧
    decode [0b01110110] = .ok (.unrecognised 0x76, []) ∧
    decode [0b00001000] = .ok (.unrecognised 0x08, []) := by
  and_intros <;> rfl

theorem test_decode_logic :
    decode [0b10100000] = .ok (.ana .b, []) ∧
    decode [0b10101111] = .ok (.xra .a, []) ∧
    decode [0b10110001] = .ok (.ora .c, []) ∧
    decode [0b10111110] = .ok (.cmp .m, []) ∧
    decode [0b11100110, 0x0F] = .ok (.ani 0x0F, []) ∧
    decode [0b11101110, 0x81] = .ok (.xri 0x81, []) ∧
    decode [0b11110110, 0x0F] = .ok (.ori 0x0F, []) ∧
    decode [0b11111110, 0x40] = .ok (.cpi 0x40, []) := by
  and_intros <;> rfl

theorem test_decode_arithmetic :
    decode [0b10000010] = .ok (.add .d, []) ∧
    decode [0b10001011] = .ok (.adc .e, []) ∧
    decode [0b10010100] = .ok (.sub .h, []) ∧
    decode [0b10011101] = .ok (.sbb .l, []) ∧
    decode [0b11000110, 0x42] = .ok (.adi 0x42, []) ∧
    decode [0b11001110, 0x42] = .ok (.aci 0x42, []) ∧
    decode [0b11010110, 0x01] = .ok (.sui 0x01, []) ∧
    decode [0b11011110, 0x01] = .ok (.sbi 0x01, []) ∧
    decode [0b00111001] = .ok (.dad .sp, []) ∧
    decode [0b00100111] = .ok (.daa, []) := by
  and_intros <;> rfl

theorem test_decode_rotate_and_count :
    decode [0b00000111] = .ok (.rlc, []) ∧
    decode [0b00001111] = .ok (.rrc, []) ∧
    decode [0b00010111] = .ok (.ral, []) ∧
    decode [0b00011111] = .ok (.rar, []) ∧
    decode [0b00110100] = .ok (.inr .m, []) ∧
    decode [0b00111101] = .ok (.dcr .a, []) ∧
    decode [0b00010011] = .ok (.inx .de, []) ∧
    decode [0b00101011] = .ok (.dcx .hl, []) := by
  and_intros <;> rfl

theorem test_decode_stack :
    decode [0b11000101] = .ok (.push .bc, []) ∧
    decode [0b11110101] = .ok (.push .psw, []) ∧
    decode [0b11010001] = .ok (.pop .de, []) ∧
    decode [0b11100001] = .ok (.pop .hl, []) ∧
    decode [0b11001101, 0x34, 0x12] = .ok (.call 0x1234, []) ∧
    decode [0b11001001] = .ok (.ret, []) ∧
    decode [0b11101111] = .ok (.rst 5, []) := by
  and_intros <;> rfl

theorem test_decode_jump :
    decode [0b11000011, 0xCD, 0xAB] = .ok (.jmp 0xABCD, []) ∧
    decode [0b11000010, 0x00, 0x30] = .ok (.jnz 0x3000, []) ∧
    decode [0b11001010, 0x00, 0x30] = .ok (.jz 0x3000, []) ∧
    decode [0b11010010, 0x00, 0x30] = .ok (.jnc 0x3000, []) ∧
    decode [0b11011010, 0x00, 0x30] = .ok (.jc 0x3000, []) ∧
    decode [0b11100010, 0x00, 0x30] = .ok (.jpo 0x3000, []) ∧
    decode [0b11101010, 0x00, 0x30] = .ok (.jpe 0x3000, []) ∧
    decode [0b11110010, 0x00, 0x30] = .ok (.jp 0x3000, []) ∧
    decode [0b11111010, 0x00, 0x30] = .ok (.jm 0x3000, []) := by
  and_intros <;> rfl

theorem test_decode_conditional_call :
    decode [0b11000100, 0x00, 0x30] = .ok (.cnz 0x3000, []) ∧
    decode [0b11001100, 0x00, 0x30] = .ok (.cz 0x3000, []) ∧
    decode [0b11010100, 0x00, 0x30] = .ok (.cnc 0x3000, []) ∧
    decode [0b11011100, 0x00, 0x30] = .ok (.cc 0x3000, []) ∧
    decode [0b11100100, 0x00, 0x30] = .ok (.cpo 0x3000, []) ∧
    decode [0b11101100, 0x00, 0x30] = .ok (.cpe 0x3000, []) ∧
    decode [0b11110100, 0x00, 0x30] = .ok (.cp 0x3000, []) ∧
    decode [0b11111100, 0x00, 0x30] = .ok (.cm 0x3000, []) := by
  and_intros <;> rfl

theorem test_decode_conditional_return :
    decode [0b11000000] = .ok (.rnz, []) ∧
    decode [0b11001000] = .ok (.rz, []) ∧
    decode [0b11010000] = .ok (.rnc, []) ∧
    decode [0b11011000] = .ok (.rc, []) ∧
    decode [0b11100000] = .ok (.rpo, []) ∧
    decode [0b11101000] = .ok (.rpe, []) ∧
    decode [0b11110000] = .ok (.rp, []) ∧
    decode [0b11111000] = .ok (.rm, []) := by
  and_intros <;> rfl

theorem test_decode_memory_move :
    decode [0b00111010, 0x00, 0x21] = .ok (.lda 0x2100, []) ∧
    decode [0b00110010, 0x00, 0x21] = .ok (.sta 0x2100, []) ∧
    decode [0b00001010] = .ok (.ldax .bc, []) ∧
    decode [0b00010010] = .ok (.stax .de, []) ∧
    decode [0b00101010, 0x0A, 0x21] = .ok (.lhld 0x210A, []) ∧
    decode [0b00100010, 0xFF, 0xFF] = .ok (.shld 0xFFFF, []) ∧
    decode [0b00100001, 0x34, 0x12] = .ok (.lxi .hl 0x1234, []) := by
  and_intros <;> rfl

theorem test_decode_misc_and_ports :
    decode [0b00101111] = .ok (.cma, []) ∧
    decode [0b00110111] = .ok (.stc, []) ∧
    decode [0b00111111] = .ok (.cmc, []) ∧
    decode [0b11101001] = .ok (.pchl, []) ∧
    decode [0b11111001] = .ok (.sphl, []) ∧
    decode [0b11101011] = .ok (.xchg, []) ∧
    decode [0b11100011] = .ok (.xthl, []) ∧
    decode [0b11110011] = .ok (.di, []) ∧
    decode [0b11111011] = .ok (.ei, []) ∧
    decode [0b11010011, 0x04] = .ok (.outPort 4, []) ∧
    decode [0b11011011, 0x03] = .ok (.inPort 3, []) := by
  and_intros <;> rfl

theorem test_decode_missing_bytes : decode [] = .error .noOpcode ∧ decode [0x3E] = .error (.missingOperand 0x3E) ∧
    decode [0xC3, 0x00] = .error (.missingOperand 0xC3) ∧ decode [0xC3] = .error (.missingOperand 0xC3) := by
  and_intros <;> rfl

theorem test_decode_table_words : decodeTableWord 8 0x80 = some (.add .b) ∧ decodeTableWord 16 0x4ADB = some (.inPort 0x4A) ∧
    decodeTableWord 24 0x1234CD = some (.call 0x1234) ∧ decodeTableWord 8 0xCD = some (.call 0) ∧
    decodeTableWord 8 0xED = some (.unrecognised 0xED) := by
  decide

theorem test_encode_writes_the_pattern : encode (.mov .m .e) = [0b01110011] ∧ encode (.lxi .sp 0x2400) = [0b00110001, 0x00, 0x24] ∧
    encode (.rst 5) = [0b11101111] ∧ encode (.pop .psw) = [0b11110001] := by
  decide

/-! ### Single steps: helpers -/

/-- The start state of most rows of spec/95_test_vectors.md part 2: after reset, pc = 0x0100, SP = 0x2400. -/
def start : State := { State.reset with pc := 0x0100, sp := 0x2400 }

/-- The state with some bytes stored. -/
def poke (s : State) (cells : List (Word × Byte)) : State := cells.foldl (fun t cell => t.memWrite cell.1 cell.2) s

/-- The state after one step with the bytes stored at pc. -/
def after (s : State) (bytes : List Byte) : Option State :=
  match step { s with mem := Memory.load s.mem s.pc.toNat bytes } with
  | .next t => some t
  | _ => none

/-- A and F after one step, from A, B and F. -/
def aluAF (a b f : Byte) (bytes : List Byte) : Option (Byte × Byte) :=
  (after { start with a := a, b := b, f := f } bytes).map fun t => (t.a, t.f)

/-- The reset state with the windowed policy (92_eei_decisions.md D13). -/
def windowedReset : State := State.resetWith { Config.default with stackPolicy := .windowed }

/-- `LXI SP,0x2000` under the windowed policy: the window is [0x1F01, 0x2000]. -/
def windowedStart : State := { windowedReset with pc := 0x0100, sp := 0x2000, wpin := true, wmin := 0x1F01, wmax := 0x2000 }

/-! ### 95_test_vectors.md 2.1: logic, arithmetic, compare -/

theorem test_add :
    aluAF 0x3A 0xC6 0x00 [0x80] = some (0x00, 0x65) ∧
    aluAF 0x80 0x00 0x1A [0x87] = some (0x00, 0x7F) := by
  decide

theorem test_adc :
    aluAF 0x3D 0x42 0x05 [0x88] = some (0x80, 0x80) ∧
    aluAF 0xFF 0xFF 0x01 [0x88] = some (0xFF, 0xA5) := by
  decide

theorem test_sub :
    aluAF 0x10 0x20 0x05 [0x90] = some (0xF0, 0xA5) ∧
    aluAF 0x80 0x01 0x00 [0x90] = some (0x7F, 0x00) := by
  decide

theorem test_sbb :
    aluAF 0x00 0xFF 0x01 [0x98] = some (0x00, 0x65) ∧
    aluAF 0x10 0x01 0x01 [0x98] = some (0x0E, 0x00) := by
  decide

theorem test_cmp :
    aluAF 0x7F 0x80 0x00 [0xB8] = some (0x7F, 0xA5) ∧
    aluAF 0x80 0x7F 0x00 [0xB8] = some (0x80, 0x00) := by
  decide

theorem test_ana :
    aluAF 0xFC 0x0F 0x05 [0xA0] = some (0x0C, 0x20) ∧
    aluAF 0xFF 0x80 0x05 [0xA0] = some (0x80, 0x80) := by
  decide

theorem test_xra :
    aluAF 0x9D 0x00 0xFF [0xAF] = some (0x00, 0x7A) ∧
    aluAF 0x5C 0x78 0x05 [0xA8] = some (0x24, 0x20) := by
  decide

theorem test_ora :
    aluAF 0x80 0x01 0x00 [0xB0] = some (0x81, 0xA0) ∧
    aluAF 0x33 0x0F 0x05 [0xB0] = some (0x3F, 0x20) := by
  decide

theorem test_adi :
    aluAF 0x14 0x00 0x00 [0xC6, 0x42] = some (0x56, 0x20) := by
  decide

theorem test_aci :
    aluAF 0x14 0x00 0x05 [0xCE, 0x42] = some (0x57, 0x00) := by
  decide

theorem test_sui :
    aluAF 0x00 0x00 0x00 [0xD6, 0x01] = some (0xFF, 0xA5) := by
  decide

theorem test_sbi :
    aluAF 0x00 0x00 0x05 [0xDE, 0x01] = some (0xFE, 0x85) := by
  decide

theorem test_ani :
    aluAF 0x3A 0x00 0x05 [0xE6, 0x0F] = some (0x0A, 0x20) := by
  decide

theorem test_xri :
    aluAF 0x3B 0x00 0x00 [0xEE, 0x81] = some (0xBA, 0x80) := by
  decide

theorem test_ori :
    aluAF 0xB5 0x00 0x00 [0xF6, 0x0F] = some (0xBF, 0x80) := by
  decide

theorem test_cpi :
    aluAF 0x40 0x00 0x00 [0xFE, 0x4A] = some (0x40, 0xA5) := by
  decide

theorem test_add_and_compare_memory_operand :
    ((after (poke { start with a := 0x10, h := 0x20, l := 0x10 } [(0x2010, 0xF5)]) [0x86]).map fun t => (t.a, t.f)) = some (0x05, 0x25) ∧
    ((after (poke { start with a := 0x10, h := 0x20, l := 0x10 } [(0x2010, 0x10)]) [0xBE]).map fun t => (t.a, t.f)) = some (0x10, 0x60) := by
  decide

/-! ### 2.2: rotates -/

theorem test_rlc :
    aluAF 0x80 0x00 0xE0 [0x07] = some (0x01, 0xE5) ∧
    aluAF 0x01 0x00 0x05 [0x07] = some (0x02, 0x00) := by
  decide

theorem test_rrc :
    aluAF 0x01 0x00 0x00 [0x0F] = some (0x80, 0x05) ∧
    aluAF 0xF2 0x00 0x05 [0x0F] = some (0x79, 0x00) := by
  decide

theorem test_ral :
    aluAF 0xB5 0x00 0x00 [0x17] = some (0x6A, 0x05) ∧
    aluAF 0x00 0x00 0x05 [0x17] = some (0x01, 0x00) := by
  decide

theorem test_rar :
    aluAF 0x6A 0x00 0x05 [0x1F] = some (0xB5, 0x00) ∧
    aluAF 0x81 0x00 0x04 [0x1F] = some (0x40, 0x05) := by
  decide

/-! ### 2.3: increment and decrement -/

theorem test_inr : ((after { start with b := 0xFF } [0x04]).map fun t => (t.b, t.f)) = some (0x00, 0x65) ∧
    ((after (poke { start with f := 0x05, h := 0x21 } [(0x2100, 0x3F)]) [0x34]).map fun t => (t.memRead 0x2100, t.f)) =
      some (0x40, 0x00) := by
  decide

theorem test_dcr : ((after { start with b := 0x00 } [0x05]).map fun t => (t.b, t.f)) = some (0xFF, 0xA5) ∧
    ((after (poke { start with f := 0x05, h := 0x21 } [(0x2100, 0x40)]) [0x35]).map fun t => (t.memRead 0x2100, t.f)) =
      some (0x3F, 0x20) := by
  decide

theorem test_inx : ((after { start with b := 0xFF, c := 0xFF, f := 0x40 } [0x03]).map fun t => (t.bc, t.f)) = some (0x0000, 0x45) ∧
    ((after { start with sp := 0x23FF } [0x33]).map fun t => (t.sp, t.f)) = some (0x2400, 0x00) := by
  decide

theorem test_dcx : ((after { start with sp := 0x0000 } [0x3B]).map fun t => (t.sp, t.f)) = some (0xFFFF, 0x05) ∧
    ((after { start with b := 0x01, c := 0x00, f := 0x45 } [0x0B]).map fun t => (t.bc, t.f)) = some (0x00FF, 0x45) := by
  decide

/-! ### 2.4, 2.5: DAD, DAA -/

theorem test_dad : ((after { start with h := 0xA1, l := 0x7B, b := 0x33, c := 0x9F, f := 0xC0 } [0x09]).map fun t => (t.hl, t.f)) =
      some (0xD51A, 0xC0) ∧
    ((after { start with h := 0xA1, l := 0x7B, f := 0xC0 } [0x29]).map fun t => (t.hl, t.f)) = some (0x42F6, 0xC5) := by
  decide

theorem test_daa :
    aluAF 0x9A 0x00 0x00 [0x27] = some (0x00, 0x65) ∧
    aluAF 0x12 0x00 0x01 [0x27] = some (0x72, 0x20) := by
  decide

theorem test_daa_keeps_aux_carry :
    aluAF 0xA0 0x00 0x00 [0x27] = some (0x00, 0x61) ∧
    aluAF 0x10 0x00 0x04 [0x27] = some (0x16, 0x00) := by
  decide

/-! ### 2.6: stack and subroutines -/

theorem test_push : ((after { start with b := 0x12, c := 0x34 } [0xC5]).map fun t => (t.sp, t.memRead 0x23FE, t.memRead 0x23FF, t.pc)) =
      some (0x23FE, 0x34, 0x12, 0x0101) ∧
    ((after { start with sp := 0x0001, h := 0xBE, l := 0xEF } [0xE5]).map fun t => (t.sp, t.memRead 0x0000, t.memRead 0xFFFF)) =
      some (0xFFFF, 0xBE, 0xEF) := by
  decide

theorem test_push_psw : ((after { start with a := 0xAB, f := 0xE7 } [0xF5]).map fun t => (t.memRead 0x23FE, t.memRead 0x23FF)) =
    some (0xE7, 0xAB) := by
  decide

theorem test_pop : ((after (poke { start with sp := 0xFFFF } [(0xFFFF, 0x11), (0x0000, 0x22)]) [0xE1]).map fun t => (t.hl, t.sp)) =
    some (0x2211, 0x0001) := by
  decide

theorem test_pop_psw : ((after (poke { start with sp := 0x2000 } [(0x2000, 0x04), (0x2001, 0x5A)]) [0xF1]).map fun t => (t.a, t.f, t.sp)) =
    some (0x5A, 0x04, 0x2002) := by
  decide

theorem test_call : ((after start [0xCD, 0x34, 0x12]).map fun t => (t.pc, t.sp, t.memRead 0x23FE, t.memRead 0x23FF)) =
    some (0x1234, 0x23FE, 0x03, 0x01) := by
  decide

theorem test_ret : ((after (poke { start with sp := 0x0000 } [(0x0000, 0xC9), (0x0001, 0x55)]) [0xC9]).map fun t => (t.pc, t.sp)) =
    some (0x55C9, 0x0002) := by
  decide

theorem test_rst : ((after { start with pc := 0x0200 } [0xEF]).map fun t => (t.pc, t.sp, t.memRead 0x23FE, t.memRead 0x23FF)) =
    some (0x0028, 0x23FE, 0x01, 0x02) := by
  decide

/-! ### 2.7: branches, one row of opcodes for the eight conditions, at F = 0x00 and at F = 0xE5 -/

theorem test_conditional_jumps :
    ([0xC2, 0xCA, 0xD2, 0xDA, 0xE2, 0xEA, 0xF2, 0xFA].map fun op => (after { start with f := 0x00 } [op, 0x00, 0x30]).map State.pc) =
      [some 0x3000, some 0x0103, some 0x3000, some 0x0103, some 0x3000, some 0x0103, some 0x3000, some 0x0103] ∧
    ([0xC2, 0xCA, 0xD2, 0xDA, 0xE2, 0xEA, 0xF2, 0xFA].map fun op => (after { start with f := 0xE5 } [op, 0x00, 0x30]).map State.pc) =
      [some 0x0103, some 0x3000, some 0x0103, some 0x3000, some 0x0103, some 0x3000, some 0x0103, some 0x3000] := by
  decide +kernel

theorem test_conditional_calls :
    ([0xC4, 0xD4, 0xE4, 0xF4].all fun op => ((after { start with f := 0x00 } [op, 0x00, 0x30]).map fun t =>
      (t.pc, t.sp, t.memRead 0x23FE, t.memRead 0x23FF)) == some (0x3000, 0x23FE, 0x03, 0x01)) = true ∧
    ([0xCC, 0xDC, 0xEC, 0xFC].all fun op => ((after { start with f := 0x00 } [op, 0x00, 0x30]).map fun t =>
      (t.pc, t.sp)) == some (0x0103, 0x2400)) = true ∧
    ([0xC4, 0xD4, 0xE4, 0xF4].all fun op => ((after { start with f := 0xE5 } [op, 0x00, 0x30]).map fun t =>
      (t.pc, t.sp)) == some (0x0103, 0x2400)) = true ∧
    ([0xCC, 0xDC, 0xEC, 0xFC].all fun op => ((after { start with f := 0xE5 } [op, 0x00, 0x30]).map fun t =>
      (t.pc, t.sp)) == some (0x3000, 0x23FE)) = true := by
  decide +kernel

/-- The state of the return forms: 0x5678 on the stack. -/
def returnStart : State := poke { start with sp := 0x23FE } [(0x23FE, 0x78), (0x23FF, 0x56)]

theorem test_conditional_returns :
    ([0xC0, 0xD0, 0xE0, 0xF0].all fun op => ((after { returnStart with f := 0x00 } [op]).map fun t =>
      (t.pc, t.sp)) == some (0x5678, 0x2400)) = true ∧
    ([0xC8, 0xD8, 0xE8, 0xF8].all fun op => ((after { returnStart with f := 0x00 } [op]).map fun t =>
      (t.pc, t.sp)) == some (0x0101, 0x23FE)) = true ∧
    ([0xC0, 0xD0, 0xE0, 0xF0].all fun op => ((after { returnStart with f := 0xE5 } [op]).map fun t =>
      (t.pc, t.sp)) == some (0x0101, 0x23FE)) = true ∧
    ([0xC8, 0xD8, 0xE8, 0xF8].all fun op => ((after { returnStart with f := 0xE5 } [op]).map fun t =>
      (t.pc, t.sp)) == some (0x5678, 0x2400)) = true := by
  decide +kernel

theorem test_jmp : ((after start [0xC3, 0xCD, 0xAB]).map State.pc) = some 0xABCD := by
  decide

theorem test_pchl : ((after { start with h := 0x41, l := 0x3E } [0xE9]).map State.pc) = some 0x413E := by
  decide

/-! ### 2.8: the fetch guard, unrecognised opcodes, NOP -/

theorem test_guard_opcode : ((after { start with pc := 0xFFFF, a := 0x07 } [0x3C]).map fun t => (t.pc, t.a, t.returned)) =
    some (0xFFFF, 0x07, .cycles 4) := by
  decide +kernel

theorem test_guard_operands :
    ((after { start with pc := 0xFFFE, a := 0x55 } [0x3E, 0x99]).map fun t => (t.pc, t.a)) = some (0xFFFF, 0x00) ∧
    ((after { start with pc := 0xFFFD } [0xC3, 0x77, 0x88]).map State.pc) = some 0x0077 := by
  decide

theorem test_guard_return_address :
    ((after { start with pc := 0xFFFE } [0xCD, 0x00]).map fun t => (t.pc, t.sp, t.memRead 0x23FE, t.memRead 0x23FF)) =
      some (0x0000, 0x23FE, 0xFF, 0xFF) := by
  decide

theorem test_unrecognised : ((after { start with a := 0x01, f := 0x45 } [0xDD]).map fun t => (t.pc, t.a, t.f, t.diags, t.returned)) =
    some (0x0101, 0x01, 0x45, [⟨0xDD, 0x0100⟩], .cycles 1) := by
  decide +kernel

theorem test_nop : after start [0x00] = some { start with pc := 0x0101, loadable := false, returned := .cycles 4 } := by
  decide +kernel

/-! ### 2.9: move and memory move -/

theorem test_mov : ((after (poke { start with h := 0x21 } [(0x2100, 0xA7)]) [0x66]).map fun t => (t.h, t.l)) = some (0xA7, 0x00) ∧
    ((after { start with h := 0x21 } [0x74]).map fun t => t.memRead 0x2100) = some 0x21 := by
  decide

theorem test_mvi : ((after { start with h := 0x21 } [0x36, 0x3C]).map fun t => (t.memRead 0x2100, t.pc)) = some (0x3C, 0x0102) := by
  decide

theorem test_lxi : ((after start [0x21, 0x34, 0x12]).map fun t => (t.h, t.l, t.pc)) = some (0x12, 0x34, 0x0103) := by
  decide

theorem test_sta : ((after { start with a := 0x5A } [0x32, 0x00, 0x21]).map fun t => t.memRead 0x2100) = some 0x5A := by
  decide

theorem test_lda : ((after (poke start [(0x2100, 0xC3)]) [0x3A, 0x00, 0x21]).map State.a) = some 0xC3 := by
  decide

theorem test_shld : ((after { start with h := 0xAE, l := 0x29 } [0x22, 0xFF, 0xFF]).map fun t => (t.memRead 0xFFFF, t.memRead 0x0000)) =
    some (0x29, 0xAE) := by
  decide

theorem test_lhld : ((after (poke start [(0x210A, 0xFF), (0x210B, 0x03)]) [0x2A, 0x0A, 0x21]).map State.hl) = some 0x03FF := by
  decide

theorem test_stax : ((after { start with d := 0x21, e := 0x01, a := 0x98 } [0x12]).map fun t => t.memRead 0x2101) = some 0x98 := by
  decide

theorem test_ldax : ((after (poke { start with b := 0x21, c := 0x02 } [(0x2102, 0x43)]) [0x0A]).map State.a) = some 0x43 := by
  decide

/-! ### 2.10: miscellaneous -/

theorem test_cma : aluAF 0x51 0x00 0xFF [0x2F] = some (0xAE, 0xFF) := by
  decide

theorem test_stc : ((after { start with f := 0x40 } [0x37]).map State.f) = some 0x45 := by
  decide

theorem test_cmc : ((after { start with f := 0x04 } [0x3F]).map State.f) = some 0x05 ∧
    ((after { start with f := 0x01 } [0x3F]).map State.f) = some 0x00 := by
  decide

theorem test_sphl : ((after { start with h := 0x41, l := 0x3E } [0xF9]).map fun t => (t.sp, t.hl)) = some (0x413E, 0x413E) := by
  decide

theorem test_xchg : ((after { start with h := 0x41, l := 0x3E, d := 0x33, e := 0x55 } [0xEB]).map fun t => (t.hl, t.de)) =
    some (0x3355, 0x413E) := by
  decide

theorem test_xthl :
    ((after (poke { start with sp := 0x10AD, h := 0x0B, l := 0x3C } [(0x10AD, 0xF0), (0x10AE, 0x0D)]) [0xE3]).map fun t =>
      (t.hl, t.memRead 0x10AD, t.memRead 0x10AE, t.sp)) = some (0x0DF0, 0x3C, 0x0B, 0x10AD) := by
  decide

theorem test_ei : ((after start [0xFB]).map State.ie) = some true := by
  decide

theorem test_di : ((after { start with ie := true } [0xF3]).map State.ie) = some false := by
  decide

/-! ### 2.11: ports and the shifter -/

theorem test_out_shifter : ((after { start with shift := 0xAA00, a := 0xFF } [0xD3, 0x04]).map fun t => (t.shift, t.shoff)) =
      some (0xFFAA, 0) ∧
    ((after { start with a := 0x0B } [0xD3, 0x02]).map fun t => (t.shift, t.shoff)) = some (0x0000, 3) := by
  decide

theorem test_out_other_port : ((after { start with a := 0xFF } [0xD3, 0x06]).map fun t => (t.shift, t.shoff, t.pc)) =
    some (0x0000, 0, 0x0102) := by
  decide

theorem test_in_shifter :
    ([0, 1, 2, 3, 4, 5, 6, 7].map fun n => (after { start with shift := 0xFFAA, shoff := n } [0xDB, 0x03]).map State.a) =
      [some 0xFF, some 0xFF, some 0xFE, some 0xFD, some 0xFA, some 0xF5, some 0xEA, some 0xD5] := by
  decide +kernel

theorem test_in_other_ports : ((after { start with inp1 := 0x81, a := 0x55 } [0xDB, 0x01]).map State.a) = some 0x81 ∧
    ((after { start with inp2 := 0x24 } [0xDB, 0x02]).map State.a) = some 0x24 ∧
    ((after { start with a := 0x55 } [0xDB, 0x00]).map State.a) = some 0x00 := by
  decide

/-! ### 2.12: interrupt delivery; the other DRIVER actions -/

/-- The state after one step in which the DRIVER does `act`. -/
def acted (s : State) (act : DriverAction) : Option State :=
  match step { s with schedule := [act] } with
  | .next t => some t
  | _ => none

theorem test_interrupt_accepted :
    ((acted { start with ie := true, pc := 0x1A32 } (.raiseInterrupt 1)).map fun t =>
      (t.pc, t.sp, t.memRead 0x23FE, t.memRead 0x23FF, t.ie)) = some (0x0008, 0x23FE, 0x32, 0x1A, false) := by
  decide

theorem test_interrupt_dropped :
    acted { start with pc := 0x1A32 } (.raiseInterrupt 1) = some { start with pc := 0x1A32 } := by
  decide +kernel

theorem test_interrupt_at_the_top :
    ((acted { start with ie := true, pc := 0xFFFF, sp := 0x0000 } (.raiseInterrupt 7)).map fun t =>
      (t.pc, t.sp, t.memRead 0xFFFE, t.memRead 0xFFFF)) = some (0x0038, 0xFFFE, 0xFF, 0xFF) := by
  decide

theorem test_set_input_port : ((acted start (.setInputPort .port2 0x24)).map fun t => (t.inp1, t.inp2)) = some (0x00, 0x24) := by
  decide

theorem test_read_memory : ((acted (poke start [(0x2400, 0x7E)]) (.readMemory 0x2400)).map State.returned) = some (.byte 0x7E) := by
  decide

theorem test_load_image : ((acted start (.loadImage [0x31, 0x00, 0x24])).map fun t => (t.mem, t.loadable)) =
    some ([(0, 0x31), (2, 0x24)], false) := by
  decide

/-! ### 2.13: the windowed stack policy -/

theorem test_windowed_lxi_pins : ((after windowedReset [0x31, 0x00, 0x20]).map fun t => (t.sp, t.wpin, t.wmin, t.wmax)) =
    some (0x2000, true, 0x1F01, 0x2000) := by
  decide

theorem test_windowed_push_snaps : ((after { windowedStart with sp := 0x1F02, b := 0xB1, c := 0xC1 } [0xC5]).map fun t =>
    (t.sp, t.memRead 0x1F01, t.memRead 0x2000, t.memRead 0x1F00)) = some (0x2000, 0xB1, 0xC1, 0x00) := by
  decide

theorem test_windowed_pop_snaps :
    ((after (poke windowedStart [(0x2000, 0x11), (0x1F01, 0x22), (0x2001, 0x99)]) [0xC1]).map fun t => (t.bc, t.sp)) =
      some (0x2211, 0x1F02) := by
  decide

theorem test_windowed_xthl :
    ((after (poke { windowedStart with h := 0xAA, l := 0xBB } [(0x2000, 0x11), (0x1F01, 0x22), (0x2001, 0x99)]) [0xE3]).map fun t =>
      (t.hl, t.memRead 0x2000, t.memRead 0x1F01, t.memRead 0x2001, t.sp)) = some (0x2211, 0xBB, 0xAA, 0x99, 0x2000) := by
  decide

theorem test_windowed_without_a_window : ((after { windowedReset with h := 0x01, l := 0x02 } [0xE5]).map fun t =>
    (t.sp, t.memRead 0xFFFE, t.memRead 0xFFFF)) = some (0xFFFE, 0x02, 0x01) := by
  decide

theorem test_windowed_dcx_pins_again : ((after windowedStart [0x3B]).map fun t => (t.sp, t.wmin, t.wmax)) =
    some (0x1FFF, 0x1F00, 0x1FFF) := by
  decide

theorem test_window_across_zero : ((windowedReset.setPointer 0x0010).wmin, (windowedReset.setPointer 0x0010).wmax) =
    (0xFF11, 0x0010) := by
  decide

/-! ### Placing an instruction from outside -/

theorem test_with_fetch_word : (match step (State.reset.withFetchWord 24 0x1234CD) with | .next t => some (t.pc, t.sp) | _ => none) =
      some (0x1234, 0xFFFE) ∧
    (match step (State.reset.withFetchWord 8 0x3E) with | .next t => some (t.pc, t.a) | _ => none) = some (0x0002, 0x00) := by
  decide

theorem test_with_fetch_word_at_the_top :
    (match step (State.withFetchWord { start with pc := 0xFFFF } 16 0x3C3E) with | .next t => some (t.pc, t.a) | _ => none) =
      some (0x0002, 0x3C) := by
  decide

/-! ### Witnesses: states and operands that meet the hypotheses of the statements (Certificates/Slice0/Obligations.lean)

The statements that are not named here have no hypothesis. -/

/-- A windowed state with SP at the lowest address of its window. -/
def windowedLow : State := { windowedStart with sp := 0x1F01 }

/-- `ResetStateIsAllZero`: both disjuncts, and the first one for parameters that are not those of reset. -/
theorem witness_reset : (windowedReset = State.resetWith { Config.default with stackPolicy := .windowed } ∨ windowedReset = State.reset) ∧
    (State.reset = State.resetWith Config.default ∨ State.reset = State.reset) ∧ windowedReset ≠ State.reset :=
  ⟨.inl rfl, .inr rfl, by decide⟩

/-- `ResetMeetsTheInvariant`, and the second clause of `StepReturnsTheCostOfTheOpcode`: the parameters are in their range, under
either policy. -/
theorem witness_config : Config.wf Config.default = true ∧ Config.wf { Config.default with stackPolicy := .windowed } = true ∧
    Config.wf { Config.default with inOther := [(0, 0x0E), (255, 0xFF)] } = true ∧
    Config.wf { Config.default with cycles := ((defaultCycles.set 0x34 7).set 0x35 7).set 0x36 7 } = true := by
  decide +kernel

theorem windowedReset_ok : windowedReset.WindowOk := ⟨by decide, by decide, by decide⟩

theorem windowedStart_ok : windowedStart.WindowOk := ⟨by decide, by decide, by decide⟩

theorem windowedLow_ok : windowedLow.WindowOk := ⟨by decide, by decide, by decide⟩

theorem start_ok : start.WindowOk := ⟨by decide, by decide, by decide⟩

/-- The hypothesis of `PushStoresThePair`, `PushThenPopGivesTheValueBack`, `CallPushesTheReturnAddress`, `ReturnUndoesACall` and
`XthlSwapsHLAndTheTopOfTheStack`: no window, no window yet, SP at the top of the window, SP at the bottom; each with IE set,
which the last clause of `ReturnUndoesACall` asks for. -/
theorem witness_windowOk :
    State.WindowOk { start with ie := true } ∧ State.WindowOk { windowedReset with ie := true } ∧
    State.WindowOk { windowedStart with ie := true } ∧ State.WindowOk { windowedLow with ie := true } ∧
    (windowedStart.sp = windowedStart.wmax ∧ windowedLow.sp = windowedLow.wmin) :=
  ⟨⟨by decide, by decide, by decide⟩, ⟨by decide, by decide, by decide⟩, ⟨by decide, by decide, by decide⟩,
    ⟨by decide, by decide, by decide⟩, by decide, by decide⟩

/-- `EveryStepKeepsTheInvariant`: a state with bytes in memory and a pinned window, whose step (a POP at the top of the window)
answers a next state. -/
theorem witness_invariant :
    State.Inv (poke windowedStart [(0x0100, 0xC1), (0x2000, 0x11), (0x1F01, 0x22)]) ∧
    ∃ t, step (poke windowedStart [(0x0100, 0xC1), (0x2000, 0x11), (0x1F01, 0x22)]) = .next t ∧ t.sp = 0x1F02 ∧ t.bc = 0x2211 :=
  ⟨⟨by decide, ⟨by decide, by decide, by decide⟩, by decide +kernel⟩, _, rfl, by decide, by decide⟩

/-- `CanonicalMemoriesThatReadTheSameAreEqual`: a memory made by writes in falling order, with a byte written twice and a byte
erased, at both ends of the address space. -/
theorem witness_canonical :
    Memory.wf (Memory.write (Memory.write (Memory.write (Memory.write [] 0xFFFF 5) 7 1) 0 9) 7 0) = true ∧
    Memory.wf [(0, 9), (0xFFFF, 5)] = true ∧
    ∀ x : Word, Memory.read (Memory.write (Memory.write (Memory.write (Memory.write [] 0xFFFF 5) 7 1) 0 9) 7 0) x.toNat =
      Memory.read [(0, 9), (0xFFFF, 5)] x.toNat :=
  ⟨by decide, by decide, fun x => by rw [show Memory.write (Memory.write (Memory.write (Memory.write [] 0xFFFF 5) 7 1) 0 9) 7 0 =
    [(0, 9), (0xFFFF, 5)] by decide]⟩

/-- `NoInstructionAndNoStepStops`: nothing scheduled, and an interrupt before an image. -/
theorem witness_no_load_image : (∀ bytes rest, start.schedule ≠ .loadImage bytes :: rest) ∧
    ∀ bytes rest, State.schedule { start with schedule := [.raiseInterrupt 1, .loadImage [0]] } ≠ .loadImage bytes :: rest :=
  ⟨fun _ _ h => by simp [start, State.reset, State.resetWith] at h, fun _ _ h => by simp at h⟩

/-- `DecodeOfEncodeIsTheInstruction` and `EncodeOfDecodeIsTheBytes`: one instruction of each length, with bytes after it. -/
theorem witness_encoding : (Instr.wf (.mov .m .a) = true ∧ Instr.wf (.sbi 0xFF) = true ∧ Instr.wf (.cpe 0xFFFF) = true) ∧
    decode [0x77, 0x12, 0x34] = .ok (.mov .m .a, [0x12, 0x34]) ∧ decode [0xDE, 0xFF, 0x34] = .ok (.sbi 0xFF, [0x34]) ∧
    decode [0xEC, 0xFF, 0xFF] = .ok (.cpe 0xFFFF, []) := by
  refine ⟨by decide, rfl, rfl, rfl⟩

/-- `StepsNext`, both ways: nothing scheduled, and `Step` scheduled before other actions. -/
theorem witness_stepsNext : start.StepsNext [] ∧ State.StepsNext { start with schedule := [.step, .raiseInterrupt 2] } [.raiseInterrupt 2] :=
  ⟨.inl ⟨rfl, rfl⟩, .inr rfl⟩

/-- `StepRunsTheFetchedInstruction`: the decoding premise in the middle of memory, with the high operand byte behind the fetch
guard, and at the top of memory, where the guard's 0x00 is a NOP whatever memory holds. -/
theorem witness_fetched_instruction :
    (let s := poke start [(0x0100, 0xCD), (0x0101, 0x34), (0x0102, 0x12)];
      s.StepsNext [] ∧ decode [s.streamByte 0, s.streamByte 1, s.streamByte 2] = .ok (.call 0x1234, [])) ∧
    (let s := poke { start with pc := 0xFFFD } [(0xFFFD, 0xC3), (0xFFFE, 0x77), (0xFFFF, 0x88)];
      s.StepsNext [] ∧ decode [s.streamByte 0, s.streamByte 1, s.streamByte 2] = .ok (.jmp 0x0077, [])) ∧
    (let s := poke { start with pc := 0xFFFF, schedule := [.step] } [(0xFFFF, 0x3C)];
      s.StepsNext [] ∧ decode [s.streamByte 0, s.streamByte 1, s.streamByte 2] = .ok (.nop, [0, 0])) :=
  ⟨⟨.inl ⟨rfl, rfl⟩, rfl⟩, ⟨.inl ⟨rfl, rfl⟩, rfl⟩, ⟨.inr rfl, rfl⟩⟩

/-- `StepAtTheTopOfMemoryIsNop`: with nothing scheduled and with `Step` scheduled. -/
theorem witness_top_of_memory :
    (State.StepsNext { start with pc := 0xFFFF } [] ∧ State.pc { start with pc := 0xFFFF } = 0xFFFF) ∧
    (State.StepsNext { start with pc := 0xFFFF, schedule := [.step, .step] } [.step] ∧
      State.pc { start with pc := 0xFFFF, schedule := [.step, .step] } = 0xFFFF) :=
  ⟨⟨.inl ⟨rfl, rfl⟩, rfl⟩, .inr rfl, rfl⟩

/-- `StepReturnsTheCostOfTheOpcode`: a step on an opcode of no class (XTHL, 18), an unrecognised one (0xED, 1), and one of each
class of the second clause at the ends of its range (MOV B,B and CMP A, MOV M,B and CMP M, INR B and DCR A, INR M), each with
parameters in their range and the count it returns. -/
theorem witness_cost :
    ([(0xE3, 18), (0xED, 1), (0x40, 5), (0xBF, 4), (0x70, 7), (0xBE, 7), (0x04, 5), (0x3D, 5), (0x34, 10)].all fun (op, n) =>
      match step (poke start [(0x0100, op)]) with
      | .next t => (poke start [(0x0100, op)]).config.wf && decide (t.returned = .cycles n)
      | _ => false) = true ∧
    (poke start [(0x0100, 0xE3)]).StepsNext [] :=
  ⟨by decide +kernel, .inl ⟨rfl, rfl⟩⟩

/-- `UnrecognisedOpcodeOnlyReports`: an unrecognised byte at the last address that is fetched from. -/
theorem witness_unrecognised :
    (poke { start with pc := 0xFFFE } [(0xFFFE, 0x76)]).StepsNext [] ∧ (poke { start with pc := 0xFFFE } [(0xFFFE, 0x76)]).pc ≠ 0xFFFF ∧
    (poke { start with pc := 0xFFFE } [(0xFFFE, 0x76)]).memRead (poke { start with pc := 0xFFFE } [(0xFFFE, 0x76)]).pc ∈
      unrecognisedBytes :=
  ⟨.inl ⟨rfl, rfl⟩, by decide, by decide⟩

/-- `AddThenSubtractRestoresA`: a register and M, with a sum of 0xFF and one of 0x100. -/
theorem witness_add_subtract : Reg8.b ≠ .a ∧ Reg8.m ≠ .a ∧
    (State.readReg { start with a := 0xFE, b := 0x01 } .b).toNat + 0xFE = 0xFF ∧
    ((poke { start with a := 0xFF } [(0, 0x01)]).readReg .m).toNat + 0xFF = 0x100 := by
  decide

/-- `StackSlotsFollowThePolicy` and `UnboundedPushAndPopOfAWord`: the unbounded policy, the windowed one without a window, and
with one, SP at its top, at its bottom and between. -/
theorem witness_policy :
    start.config.stackPolicy = .unbounded ∧ windowedReset.wpin = false ∧
    (windowedStart.config.stackPolicy = .windowed ∧ windowedStart.wpin = true ∧ windowedStart.sp = windowedStart.wmax) ∧
    (windowedLow.config.stackPolicy = .windowed ∧ windowedLow.wpin = true ∧ windowedLow.sp = windowedLow.wmin) ∧
    (let s := { windowedStart with sp := 0x1F80 };
      s.config.stackPolicy = .windowed ∧ s.wpin = true ∧ s.sp ≠ s.wmin ∧ s.sp ≠ s.wmax) := by
  decide

/-- `UnboundedPushAndPopOfAWord`: the policy, with SP where the two bytes wrap around. -/
theorem witness_unbounded : (State.config { start with sp := 0x0001 }).stackPolicy = .unbounded := rfl

/-- `WindowedPushesNeverLeaveTheWindow`: the policy, a pointer whose window straddles 0x0000, an address outside that window. -/
theorem witness_windowed_pushes : windowedReset.config.stackPolicy = .windowed ∧ ((0x0010 : Word) - 0xFF10).toNat > 255 ∧
    ((0x0010 : Word) - 0xFF11).toNat ≤ 255 := by
  decide

/-- `ConditionalJumpFollowsItsFlag`, `ConditionalCallFollowsItsFlag`, `ConditionalReturnFollowsItsFlag`: each of the eight
conditions holds at one of F = 0x00 and F = 0xE5 and fails at the other; the call also needs the window, as
`witness_windowOk` has it. -/
theorem witness_conditions :
    (CondTrue .nz 0x00 ∧ CondTrue .nc 0x00 ∧ CondTrue .po 0x00 ∧ CondTrue .p 0x00 ∧
      ¬CondTrue .z 0x00 ∧ ¬CondTrue .c 0x00 ∧ ¬CondTrue .pe 0x00 ∧ ¬CondTrue .m 0x00) ∧
    (CondTrue .z 0xE5 ∧ CondTrue .c 0xE5 ∧ CondTrue .pe 0xE5 ∧ CondTrue .m 0xE5 ∧
      ¬CondTrue .nz 0xE5 ∧ ¬CondTrue .nc 0xE5 ∧ ¬CondTrue .po 0xE5 ∧ ¬CondTrue .p 0xE5) ∧
    State.WindowOk { windowedStart with f := 0xE5 } :=
  ⟨by unfold CondTrue condTest; decide, by unfold CondTrue condTest; decide, ⟨by decide, by decide, by decide⟩⟩

/-- `InReadsThePort`: a port of each clause. -/
theorem witness_ports : (1 : Byte) = 1 ∧ (2 : Byte) = 2 ∧ (3 : Byte) = 3 ∧ ((0 : Byte) ≠ 1 ∧ (0 : Byte) ≠ 2 ∧ (0 : Byte) ≠ 3) ∧
    ((4 : Byte) ≠ 1 ∧ (4 : Byte) ≠ 2 ∧ (4 : Byte) ≠ 3) := by
  decide

/-- `InterruptIsEnteredOrForgotten`: the highest vector, with IE set at the bottom of a window, and with IE clear. -/
theorem witness_interrupt :
    (State.schedule { windowedLow with ie := true, schedule := [.raiseInterrupt 7, .step] } = .raiseInterrupt 7 :: [.step] ∧
      State.WindowOk { windowedLow with ie := true, schedule := [.raiseInterrupt 7, .step] }) ∧
    (State.schedule { start with schedule := [.raiseInterrupt 7] } = .raiseInterrupt 7 :: [] ∧ start.ie = false) :=
  ⟨⟨rfl, ⟨by decide, by decide, by decide⟩⟩, rfl, rfl⟩

/-- `LoadImageCopiesTheImage`: the longest image and one byte more, before the first `Step`; and an image too late. -/
theorem witness_load_image :
    (let s := { start with schedule := [.loadImage (List.replicate 65536 0xAA)] };
      s.schedule = .loadImage (List.replicate 65536 0xAA) :: [] ∧ s.loadable = true ∧ (List.replicate 65536 (0xAA : Byte)).length ≤ 65536) ∧
    (let s := { start with schedule := [.loadImage (List.replicate 65537 0xAA)] };
      s.schedule = .loadImage (List.replicate 65537 0xAA) :: [] ∧ s.loadable = true ∧ 65536 < (List.replicate 65537 (0xAA : Byte)).length) ∧
    (let s := { start with loadable := false, schedule := [.loadImage [0xAA]] };
      s.schedule = .loadImage [0xAA] :: [] ∧ s.loadable = false) :=
  ⟨⟨rfl, rfl, by rw [List.length_replicate]⟩, ⟨rfl, rfl, by rw [List.length_replicate]; omega⟩, rfl, rfl⟩

/-- `InputPortsAndMemoryAreOpenToTheDriver`: each action at the head of the schedule. -/
theorem witness_driver_actions :
    State.schedule { start with schedule := [.setInputPort .port1 0x81] } = .setInputPort .port1 0x81 :: [] ∧
    State.schedule { start with schedule := [.setInputPort .port2 0x24, .step] } = .setInputPort .port2 0x24 :: [.step] ∧
    State.schedule { start with schedule := [.readMemory 0xFFFF] } = .readMemory 0xFFFF :: [] :=
  ⟨rfl, rfl, rfl⟩

/-- The frames (`OnlyDestinationRegistersChange`, `OnlyStoredBytesChange`, `OnlyFlagInstructionsWriteF`): an instruction that
answers a next state, with a register, an address and a flag bit that each frame speaks of; one that stores nothing, and one
that stores two bytes across the top of the address space. -/
theorem witness_frames :
    (∃ t, exec (.add .b) { start with a := 0xFF, b := 0x01 } = .next t ∧ Reg8.b ≠ .m ∧ Reg8.b ∉ regDests (.add .b) ∧
      (0x2400 : Word) ∉ storeAddrs (.add .b) { start with a := 0xFF, b := 0x01 } ∧ Instr.add .b ≠ .pop .psw) ∧
    (∃ t, exec (.shld 0xFFFF) { start with h := 0xAE, l := 0x29 } = .next t ∧ writesFlags (.shld 0xFFFF) = false ∧
      (0x0001 : Word) ∉ storeAddrs (.shld 0xFFFF) { start with h := 0xAE, l := 0x29 } ∧
      (0xFFFE : Word) ∉ storeAddrs (.shld 0xFFFF) { start with h := 0xAE, l := 0x29 }) ∧
    ∃ t, exec (.push .psw) windowedLow = .next t ∧ (0x1F00 : Word) ∉ storeAddrs (.push .psw) windowedLow :=
  ⟨⟨_, rfl, by decide, by decide, by decide, by decide⟩, ⟨_, rfl, by decide, by decide, by decide⟩, _, rfl, by decide⟩

/-- `AuxCarryFollowsCarry`: an instruction that changes both flags, and one that changes neither. -/
theorem witness_aux_carry :
    (∃ t, exec (.add .b) { start with a := 0xFF, b := 0x01 } = .next t ∧ t.f = 0x65 ∧ Instr.add .b ≠ .daa ∧ Instr.add .b ≠ .pop .psw) ∧
    (∃ t, exec .cma { start with f := 0x04 } = .next t ∧ t.f = 0x04 ∧ Instr.cma ≠ .daa ∧ Instr.cma ≠ .pop .psw) :=
  ⟨⟨_, rfl, by decide, by decide, by decide⟩, _, rfl, by decide, by decide, by decide⟩

/-- `OnlyTransfersWritePCAndOnlyTheStackManagerWritesSP`: an instruction that meets every clause (MOV), and one that pushes. -/
theorem witness_pc_and_sp :
    (∃ t, exec (.mov .b .c) start = .next t ∧ writesPC (.mov .b .c) = false ∧ setsPointer (.mov .b .c) = false ∧
      usesStack (.mov .b .c) = false) ∧
    ∃ t, exec (.push .bc) windowedStart = .next t ∧ writesPC (.push .bc) = false ∧ setsPointer (.push .bc) = false :=
  ⟨⟨_, rfl, by decide, by decide, by decide⟩, _, rfl, by decide, by decide⟩

/-- `OnlyTheirInstructionsWriteSystemState` and `NoInstructionReadsIE`: OUT 4 meets every clause but the one about SHIFT, OUT 2
every one but the one about SHOFF, neither is EI or DI. -/
theorem witness_system_state :
    (∃ t, exec (.outPort 4) start = .next t ∧ Instr.outPort 4 ≠ .ei ∧ Instr.outPort 4 ≠ .di ∧ Instr.outPort 4 ≠ .outPort 2 ∧
      ∀ op, Instr.outPort 4 ≠ .unrecognised op) ∧
    ∃ t, exec (.outPort 2) start = .next t ∧ Instr.outPort 2 ≠ .ei ∧ Instr.outPort 2 ≠ .di ∧ Instr.outPort 2 ≠ .outPort 4 ∧
      ∀ op, Instr.outPort 2 ≠ .unrecognised op :=
  ⟨⟨_, rfl, by decide, by decide, by decide, by simp⟩, _, rfl, by decide, by decide, by decide, by simp⟩

/-- `OnlyDaaAndPushPswReadAuxCarry`: CMC on two flag bytes that differ in bit 2. -/
theorem witness_differ_in_aux_carry :
    (∃ t, exec .cmc { start with f := 0x05 } = .next t) ∧ Instr.cmc ≠ .daa ∧ Instr.cmc ≠ .push .psw ∧
    (∀ k, k ≠ 2 → (0x01 : Byte).getLsbD k = (0x05 : Byte).getLsbD k) ∧ (0x01 : Byte) ≠ 0x05 := by
  refine ⟨⟨_, rfl⟩, by decide, by decide, fun k hk => ?_, by decide⟩
  by_cases h : k < 8
  · have : k = 0 ∨ k = 1 ∨ k = 3 ∨ k = 4 ∨ k = 5 ∨ k = 6 ∨ k = 7 := by omega
    rcases this with rfl | rfl | rfl | rfl | rfl | rfl | rfl <;> decide
  · simp only [BitVec.getLsbD_of_ge _ _ (Nat.le_of_not_lt h)]

/-- `MemoryAccessIsByteWise` and `StoresWriteMemory`: an address other than the stored ones, at the wrap from 0xFFFF to 0x0000. -/
theorem witness_other_address : (0x0001 : Word) ≠ 0xFFFF ∧ (0x0001 : Word) ≠ 0xFFFF + 1 ∧
    ∀ cell ∈ [((0xFFFF : Word), (0x29 : Byte)), (0xFFFF + 1, 0xAE)], (0x0001 : Word) ≠ cell.1 := by
  simp

/-- `PopLoadsThePair`: another pair than the popped one; `MoveCopiesTheOperand` and `IncrementAndDecrementAByte`: another register;
`IncrementAndDecrementAPair` and `LxiAndSphlWriteThePair`: SP under either policy. -/
theorem witness_other_operand : StackPair.psw ≠ .bc ∧ (Reg8.b ≠ .c ∧ Reg8.b ≠ .m) ∧ Pair.hl ≠ .sp ∧
    (Pair.sp = .sp ∧ windowedStart.config.stackPolicy = .windowed) ∧ ¬(Pair.sp = .sp ∧ start.config.stackPolicy = .windowed) :=
  ⟨by decide, by decide, by decide, ⟨rfl, rfl⟩, fun h => StackPolicy.noConfusion h.2⟩

end Sys2Proof.Tests
end

section
/-! PROOFS. No instruction and no DRIVER action but `LoadImage` stops the machine (00_scope.md R11, 60_exceptions.md R220):
`exec` is total, `Step` is `exec` on what it fetched, and the other actions answer a next state outright. -/

namespace Sys2Proof.Machine

/-- There is no fault and no refused instruction: the meaning of each of the 78 constructors is a `.next` whatever the
operands, as the lemmas of Laws/Exec.lean state one by one (60_exceptions.md R220). -/
theorem exists_exec_eq_next (i : Instr) (s : State) : ∃ t, exec i s = .next t := by
  cases i <;> exact ⟨_, rfl⟩

/-- `Step` on what `exec` answers for the fetched instruction (40_dispatch.md R100). -/
theorem State.stepInstr_of_exec {s t : State} (h : exec s.fetchInstr.1 s.fetchInstr.2 = .next t) :
    s.stepInstr = .next (t.finishStep s.opcode) := by
  unfold State.stepInstr
  rw [h]

theorem State.exists_stepInstr_eq_next (s : State) : ∃ t, s.stepInstr = .next t := by
  obtain ⟨t, ht⟩ := exists_exec_eq_next s.fetchInstr.1 s.fetchInstr.2
  exact ⟨_, stepInstr_of_exec ht⟩

/-- `LoadImage` is the only action with a precondition (00_scope.md R10; log 6). -/
theorem State.exists_perform_eq_next (s : State) {act : DriverAction} (hact : ∀ bytes, act ≠ .loadImage bytes) :
    ∃ t, s.perform act = .next t := by
  cases act with
  | loadImage bytes => exact absurd rfl (hact bytes)
  | step => exact s.exists_stepInstr_eq_next
  | raiseInterrupt n => exact ⟨_, rfl⟩
  | setInputPort k v => exact ⟨_, rfl⟩
  | readMemory addr => exact ⟨_, rfl⟩

/-- With nothing scheduled the DRIVER calls `Step` (log 5). -/
theorem step_of_schedule_nil {s : State} (h : s.schedule = []) : step s = s.stepInstr := by
  unfold step
  rw [h]

theorem step_of_schedule_cons {s : State} {act : DriverAction} {rest : List DriverAction} (h : s.schedule = act :: rest) :
    step s = ({ s with schedule := rest } : State).perform act := by
  unfold step
  rw [h]

theorem exists_step_eq_next {s : State} (hs : ∀ bytes rest, s.schedule ≠ .loadImage bytes :: rest) :
    ∃ t, step s = .next t := by
  cases h : s.schedule with
  | nil =>
    rw [step_of_schedule_nil h]
    exact s.exists_stepInstr_eq_next
  | cons act rest =>
    rw [step_of_schedule_cons h]
    refine State.exists_perform_eq_next _ fun bytes hact => hs bytes rest ?_
    rw [h, hact]

/-- Settles O5: `exec` is total by cases on the instruction, `step` by cases on the DRIVER's next action. -/
theorem noInstructionAndNoStepStops : Obligations.NoInstructionAndNoStepStops :=
  ⟨exists_exec_eq_next, fun _ hs => exists_step_eq_next hs⟩

end Sys2Proof.Machine
end

section
/-! PROOFS. What an instruction may write outside the registers, the flags and memory (10_state.md R24, R25, R33 to R36), and
that it does not read IE (R33). -/

namespace Sys2Proof.Machine

namespace State

/-! ### Operations that write a field for some operands only -/

/-- A pair operand other than SP is no call of `SetPointer` (20_memory.md R60). -/
theorem writePair_sp_of_ne (s : State) {p : Pair} (hp : p ≠ .sp) (v : Word) : (s.writePair p v).sp = s.sp := by
  cases p with
  | sp => exact absurd rfl hp
  | bc | de | hl => rfl

/-- Only `SetPointer` pins a window (decision D14). -/
theorem writePair_window_of_ne (s : State) {p : Pair} (hp : p ≠ .sp) (v : Word) :
    (s.writePair p v).wpin = s.wpin ∧ (s.writePair p v).wmin = s.wmin ∧ (s.writePair p v).wmax = s.wmax := by
  cases p with
  | sp => exact absurd rfl hp
  | bc | de | hl => exact ⟨rfl, rfl, rfl⟩

/-- The shift offset is behind port 2 alone (60_exceptions.md R232). -/
theorem portWrite_shoff_of_ne (s : State) {port : Byte} (hp : port ≠ 2) (v : Byte) :
    (s.portWrite port v).shoff = s.shoff := by
  rw [portWrite, if_neg hp]
  split <;> rfl

/-- The shift register is behind port 4 alone (60_exceptions.md R233). -/
theorem portWrite_shift_of_ne (s : State) {port : Byte} (hp : port ≠ 4) (v : Byte) :
    (s.portWrite port v).shift = s.shift := by
  rw [portWrite, if_neg hp]
  split <;> rfl

/-! ### The state with another value of IE -/

/-- The state with IE set to `b`. -/
def withIE (s : State) (b : Bool) : State := { s with ie := b }

variable (s : State) (b : Bool)

theorem readPair_withIE (p : Pair) : (s.withIE b).readPair p = s.readPair p := by
  cases p <;> rfl

theorem setPointer_withIE (v : Word) : (s.withIE b).setPointer v = (s.setPointer v).withIE b := by
  cases hc : s.config.stackPolicy <;> simp [setPointer, withIE, hc]

theorem writePair_withIE (p : Pair) (v : Word) : (s.withIE b).writePair p v = (s.writePair p v).withIE b := by
  cases p with
  | sp => exact s.setPointer_withIE b v
  | bc | de | hl => rfl

theorem forceCarry_withIE (c : Bool) : (s.withIE b).forceCarry c = (s.forceCarry c).withIE b := by
  cases c <;> rfl

theorem jumpIf_withIE (cond : Cond) (x : Word) : (s.withIE b).jumpIf cond x = (s.jumpIf cond x).withIE b :=
  (apply_ite (withIE · b) (condHolds s.f cond = true) (s.jump x) s).symm

theorem callIf_withIE (cond : Cond) (x : Word) : (s.withIE b).callIf cond x = (s.callIf cond x).withIE b :=
  (apply_ite (withIE · b) (condHolds s.f cond = true) (s.callTo x) s).symm

theorem returnIf_withIE (cond : Cond) : (s.withIE b).returnIf cond = (s.returnIf cond).withIE b :=
  (apply_ite (withIE · b) (condHolds s.f cond = true) s.returnPC s).symm

theorem portWrite_withIE (port v : Byte) : (s.withIE b).portWrite port v = (s.portWrite port v).withIE b := by
  unfold portWrite
  split
  · rfl
  · split <;> rfl

end State

/-! ### What every instruction does to one part of the state

Each by cases on the instruction: the excluded ones go by the hypothesis, and of the others the laws of their operations say that
they leave the field alone. -/

section
variable {i : Instr} {s t : State} (h : exec i s = .next t)
include h

theorem exec_pc (hpc : writesPC i = false) : t.pc = s.pc := by
  cases i <;> cases hpc
  all_goals
    cases h
    simp

theorem exec_sp (hset : setsPointer i = false) (hstack : usesStack i = false) : t.sp = s.sp := by
  cases i with
  | lxi p _ | inx p | dcx p =>
    cases h
    simp [s.writePair_sp_of_ne (of_decide_eq_false hset)]
  | _ => cases hset <;> cases hstack <;> cases h <;> simp

/-- A push or a pop moves SP within the window and leaves the window where it is (20_memory.md R61, R62). -/
theorem exec_window (hset : setsPointer i = false) : t.wpin = s.wpin ∧ t.wmin = s.wmin ∧ t.wmax = s.wmax := by
  cases i with
  | lxi p _ | inx p | dcx p =>
    cases h
    simp [s.writePair_window_of_ne (of_decide_eq_false hset)]
  | _ => cases hset <;> cases h <;> simp

/-- INP1 and INP2 are the DRIVER's to write (60_exceptions.md R236), as are the parameters and the model's record of its
actions (logs 1, 5 to 7). -/
theorem exec_driverState :
    t.inp1 = s.inp1 ∧ t.inp2 = s.inp2 ∧ t.config = s.config ∧ t.schedule = s.schedule ∧ t.loadable = s.loadable ∧
      t.returned = s.returned := by
  cases i <;> cases h <;> simp

theorem exec_shoff (hout : i ≠ .outPort 2) : t.shoff = s.shoff := by
  cases i with
  | outPort port =>
    cases h
    exact s.portWrite_shoff_of_ne (fun hp => hout (congrArg Instr.outPort hp)) s.a
  | _ => cases h; simp

theorem exec_shift (hout : i ≠ .outPort 4) : t.shift = s.shift := by
  cases i with
  | outPort port =>
    cases h
    exact s.portWrite_shift_of_ne (fun hp => hout (congrArg Instr.outPort hp)) s.a
  | _ => cases h; simp

theorem exec_diags (hop : ∀ op, i ≠ .unrecognised op) : t.diags = s.diags := by
  cases i with
  | unrecognised op => exact absurd rfl (hop op)
  | _ => cases h; simp

/-- An instruction other than EI and DI commutes with a change of IE, because its operation does (10_state.md R33). Where the
operation writes the same fields in every case, both orders are the same record. -/
theorem exec_withIE (b : Bool) (hei : i ≠ .ei) (hdi : i ≠ .di) : exec i (s.withIE b) = .next (t.withIE b) := by
  cases i with
  | ei => exact absurd rfl hei
  | di => exact absurd rfl hdi
  | jnz x | jz x | jnc x | jc x | jpo x | jpe x | jp x | jm x =>
    cases h
    exact congrArg _ (s.jumpIf_withIE b _ x)
  | cnz x | cz x | cnc x | cc x | cpo x | cpe x | cp x | cm x =>
    cases h
    exact congrArg _ (s.callIf_withIE b _ x)
  | rnz | rz | rnc | rc | rpo | rpe | rp | rm =>
    cases h
    exact congrArg _ (s.returnIf_withIE b _)
  | lxi p v =>
    cases h
    exact congrArg _ (s.writePair_withIE b p v)
  | inx p | dcx p =>
    cases h
    simp only [exec_inx, exec_dcx, State.readPair_withIE, State.writePair_withIE, State.forceCarry_withIE]
  | sphl =>
    cases h
    exact congrArg _ (s.setPointer_withIE b s.hl)
  | outPort port =>
    cases h
    exact congrArg _ (s.portWrite_withIE b port s.a)
  | mov r _ | mvi r _ | inr r | dcr r => cases h; cases r <;> rfl
  | pop q => cases h; cases q <;> rfl
  | _ => cases h; rfl

/-- The frame on IE is the commutation with IE set to the value it has. -/
theorem exec_ie (hei : i ≠ .ei) (hdi : i ≠ .di) : t.ie = s.ie := by
  have hsame : t = t.withIE s.ie := Host.Outcome.next.inj (h.symm.trans (exec_withIE h s.ie hei hdi))
  calc t.ie = (t.withIE s.ie).ie := congrArg State.ie hsame
    _ = s.ie := rfl

end

/-! ### The statements -/

/-- Settles O57, one lemma per part, by cases on the instruction. -/
theorem onlyTransfersWritePCAndOnlyTheStackManagerWritesSP :
    Obligations.OnlyTransfersWritePCAndOnlyTheStackManagerWritesSP :=
  fun _ _ _ h => ⟨exec_pc h, exec_sp h, exec_window h⟩

/-- Settles O58, one lemma per part of the system state; the part on IE follows from the commutation behind O59. -/
theorem onlyTheirInstructionsWriteSystemState : Obligations.OnlyTheirInstructionsWriteSystemState := by
  intro i s t h
  obtain ⟨hinp1, hinp2, hconfig, hschedule, hloadable, hreturned⟩ := exec_driverState h
  exact ⟨exec_ie h, exec_shoff h, exec_shift h, hinp1, hinp2, hconfig, hschedule, hloadable, hreturned, exec_diags h⟩

/-- Settles O59: every operation of such an instruction commutes with a change of IE. -/
theorem noInstructionReadsIE : Obligations.NoInstructionReadsIE :=
  fun _ _ _ b h hei hdi => exec_withIE h b hei hdi

end Sys2Proof.Machine
end

section
/-! PROOFS. What every state that a run reaches keeps (20_memory.md R65, 10_state.md R36): Memory in canonical form, the stack
window, and the parameters in their range. -/

namespace Sys2Proof.Machine

namespace State

/-! ### Operations that store -/

theorem writeReg_wf {s : State} (hm : Memory.wf s.mem = true) (r : Reg8) (v : Byte) :
    Memory.wf (s.writeReg r v).mem = true := by
  cases r with
  | m => exact memWrite_wf hm s.hl v
  | _ => exact hm

theorem pushWord_wf {s : State} (hm : Memory.wf s.mem = true) (w : Word) : Memory.wf (s.pushWord w).mem = true :=
  Memory.wf_write (Memory.wf_write hm (toNat_lt_memorySize _) _) (toNat_lt_memorySize _) _

theorem callTo_wf {s : State} (hm : Memory.wf s.mem = true) (x : Word) : Memory.wf (s.callTo x).mem = true :=
  pushWord_wf hm s.pc

theorem callIf_wf {s : State} (hm : Memory.wf s.mem = true) (cond : Cond) (x : Word) :
    Memory.wf (s.callIf cond x).mem = true := by
  rw [callIf_eq]
  split
  · exact callTo_wf hm x
  · exact hm

/-! ### Operations that move SP -/

theorem WindowOk.callTo {s : State} (h : s.WindowOk) (x : Word) : (s.callTo x).WindowOk :=
  (h.pushWord s.pc).congr rfl rfl rfl rfl rfl

theorem WindowOk.callIf {s : State} (h : s.WindowOk) (cond : Cond) (x : Word) : (s.callIf cond x).WindowOk := by
  rw [callIf_eq]
  split
  · exact h.callTo x
  · exact h

theorem WindowOk.returnPC {s : State} (h : s.WindowOk) : s.returnPC.WindowOk :=
  h.popWord.congr rfl rfl rfl rfl rfl

theorem WindowOk.returnIf {s : State} (h : s.WindowOk) (cond : Cond) : (s.returnIf cond).WindowOk := by
  rw [returnIf_eq]
  split
  · exact h.returnPC
  · exact h

theorem WindowOk.writePair {s : State} (h : s.WindowOk) (p : Pair) (v : Word) : (s.writePair p v).WindowOk := by
  cases p with
  | sp => exact windowOk_setPointer h v
  | bc | de | hl => exact h.congr rfl rfl rfl rfl rfl

theorem WindowOk.forceCarry {s : State} (h : s.WindowOk) (c : Bool) : (s.forceCarry c).WindowOk :=
  h.congr (s.forceCarry_config c) (s.forceCarry_wpin c) (s.forceCarry_wmin c) (s.forceCarry_wmax c) (s.forceCarry_sp c)

theorem WindowOk.setHL {s : State} (h : s.WindowOk) (v : Word) : (s.setHL v).WindowOk := h.congr rfl rfl rfl rfl rfl

theorem WindowOk.writeStackPair {s : State} (h : s.WindowOk) (q : StackPair) (v : Word) :
    (s.writeStackPair q v).WindowOk := by
  cases q <;> exact h.congr rfl rfl rfl rfl rfl

/-! ### The invariant on the parts it reads -/

theorem Inv.congr {s t : State} (h : s.Inv) (hmem : t.mem = s.mem) (hc : t.config = s.config) (hp : t.wpin = s.wpin)
    (hm : t.wmin = s.wmin) (hx : t.wmax = s.wmax) (hs : t.sp = s.sp) : t.Inv where
  mem := by rw [hmem]; exact h.mem
  window := h.window.congr hc hp hm hx hs
  config := by rw [hc]; exact h.config

theorem Inv.raiseInterrupt {s : State} (h : s.Inv) (n : BitVec 3) : (s.raiseInterrupt n).Inv := by
  unfold State.raiseInterrupt
  split
  · have hie : ({ s with ie := false } : State).Inv := h.congr rfl rfl rfl rfl rfl rfl
    exact ⟨callTo_wf hie.mem _, hie.window.callTo _, hie.config⟩
  · exact h

theorem Inv.setInputPort {s : State} (h : s.Inv) (k : InputPort) (v : Byte) : (s.setInputPort k v).Inv := by
  cases k <;> exact h.congr rfl rfl rfl rfl rfl rfl

theorem Inv.fetchInstr {s : State} (h : s.Inv) : s.fetchInstr.2.Inv := by
  rw [fetchInstr_eq]
  exact h.congr rfl rfl rfl rfl rfl rfl

end State

/-! ### What every instruction keeps -/

section
variable {i : Instr} {s t : State} (h : exec i s = .next t)
include h

/-- By cases on the instruction: those that store do so through operations that keep the form, the others leave Memory as it is. -/
theorem exec_mem_wf (hm : Memory.wf s.mem = true) : Memory.wf t.mem = true := by
  cases i with
  | sta _ | stax _ => cases h; exact State.memWrite_wf hm _ _
  | shld _ => cases h; exact State.memWrite_wf (State.memWrite_wf hm _ _) _ _
  | mov _ _ | mvi _ _ | inr _ | dcr _ => cases h; exact State.writeReg_wf hm _ _
  | push _ => cases h; exact State.pushWord_wf hm _
  | xthl => cases h; exact State.pushWord_wf (s := s.popWord.2) hm s.hl
  | call _ | rst _ => cases h; exact State.callTo_wf hm _
  | cnz _ | cz _ | cnc _ | cc _ | cpo _ | cpe _ | cp _ | cm _ => cases h; exact State.callIf_wf hm _ _
  | _ => cases h; simpa using hm

/-- By cases on the instruction: those that move SP do so through the Stack Manager (10_state.md R25), the others leave SP and the
window as they are. -/
theorem exec_windowOk (hw : s.WindowOk) : t.WindowOk := by
  cases i with
  | lxi _ _ => cases h; exact hw.writePair _ _
  | inx _ | dcx _ => cases h; exact (hw.writePair _ _).forceCarry _
  | sphl => cases h; exact State.windowOk_setPointer hw _
  | push _ => cases h; exact hw.pushWord _
  | pop _ => cases h; exact hw.popWord.writeStackPair _ _
  | xthl => cases h; exact (hw.popWord.pushWord s.hl).setHL s.popWord.1
  | call _ | rst _ => cases h; exact hw.callTo _
  | ret => cases h; exact hw.returnPC
  | cnz _ | cz _ | cnc _ | cc _ | cpo _ | cpe _ | cp _ | cm _ => cases h; exact hw.callIf _ _
  | rnz | rz | rnc | rc | rpo | rpe | rp | rm => cases h; exact hw.returnIf _
  | _ =>
    obtain ⟨-, -, hconfig, -⟩ := exec_driverState h
    obtain ⟨hwpin, hwmin, hwmax⟩ := exec_window h rfl
    exact hw.congr hconfig hwpin hwmin hwmax (exec_sp h rfl rfl)

theorem exec_inv (hs : s.Inv) : t.Inv := by
  obtain ⟨-, -, hconfig, -⟩ := exec_driverState h
  exact ⟨exec_mem_wf h hs.mem, exec_windowOk h hs.window, by rw [hconfig]; exact hs.config⟩

end

/-! ### What every DRIVER action keeps -/

/-- `Step` is `exec` on what it fetched, then the end of the step (40_dispatch.md R100). -/
theorem State.stepInstr_eq_next {s t : State} (h : s.stepInstr = .next t) :
    ∃ u, exec s.fetchInstr.1 s.fetchInstr.2 = .next u ∧ t = u.finishStep s.opcode := by
  obtain ⟨u, hu⟩ := exists_exec_eq_next s.fetchInstr.1 s.fetchInstr.2
  exact ⟨u, hu, Host.Outcome.next.inj (h.symm.trans (stepInstr_of_exec hu))⟩

/-- `LoadImage` answers a next state only for an image that fits (70_reset_and_hazards.md R263). -/
theorem State.loadImage_eq_next {s t : State} {bytes : List Byte} (h : s.loadImage bytes = .next t) :
    bytes.length ≤ memorySize ∧
      t = { s with mem := Memory.load s.mem 0 bytes, loadable := false, returned := .nothing } := by
  unfold State.loadImage at h
  split at h
  · cases h
  · split at h
    · cases h
    · cases h
      exact ⟨by omega, rfl⟩

theorem State.perform_inv {s t : State} {act : DriverAction} (hs : s.Inv) (h : s.perform act = .next t) : t.Inv := by
  cases act with
  | loadImage bytes =>
    obtain ⟨hlen, rfl⟩ := State.loadImage_eq_next h
    exact ⟨Memory.wf_load hs.mem 0 bytes (by omega), hs.window.congr rfl rfl rfl rfl rfl, hs.config⟩
  | step =>
    obtain ⟨u, hu, rfl⟩ := State.stepInstr_eq_next h
    exact (exec_inv hu hs.fetchInstr).congr rfl rfl rfl rfl rfl rfl
  | raiseInterrupt n => cases h; exact (hs.raiseInterrupt n).congr rfl rfl rfl rfl rfl rfl
  | setInputPort k v => cases h; exact (hs.setInputPort k v).congr rfl rfl rfl rfl rfl rfl
  | readMemory addr => cases h; exact hs.congr rfl rfl rfl rfl rfl rfl

/-! ### The statements -/

/-- Settles O3: an action of the schedule keeps the invariant, and so does the `Step` of an empty schedule. -/
theorem everyStepKeepsTheInvariant : Obligations.EveryStepKeepsTheInvariant := by
  intro s t hs h
  cases hsch : s.schedule with
  | nil =>
    rw [step_of_schedule_nil hsch] at h
    exact State.perform_inv (act := .step) hs h
  | cons act rest =>
    rw [step_of_schedule_cons hsch] at h
    exact State.perform_inv (s := { s with schedule := rest }) (hs.congr rfl rfl rfl rfl rfl rfl) h

/-- The default CYCLES allows each of the 256 opcode bytes its cost (70_reset_and_hazards.md R270, R271), by evaluation. -/
theorem config_default_wf : Config.default.wf = true := by
  decide +kernel

theorem State.inv_resetWith {config : Config} (h : config.wf = true) : (State.resetWith config).Inv where
  mem := rfl
  window := ⟨fun _ => ⟨rfl, rfl, rfl⟩, fun hp => Bool.noConfusion hp, fun hp => Bool.noConfusion hp⟩
  config := h

/-- Settles O2: reset leaves Memory empty and no window pinned, and the parameters of `State.reset` are in their range. -/
theorem resetMeetsTheInvariant : Obligations.ResetMeetsTheInvariant :=
  ⟨fun _ h => State.inv_resetWith h, State.inv_resetWith config_default_wf⟩

end Sys2Proof.Machine
end

section
/-! PROOFS. A byte, a word, a pair and the top of the stack: what is read after a write, and what the write leaves alone
(20_memory.md R50 to R64, 10_state.md R22, R23). -/

namespace Sys2Proof.Machine

namespace State

/-! ### The stack under the unbounded policy -/

/-- Under the unbounded policy a push moves one down and a pop one up (20_memory.md R61, R62). -/
theorem slots_of_unbounded {s : State} (h : s.config.stackPolicy = .unbounded) :
    s.pushSlot = s.sp - 1 ∧ s.popSlot = s.sp + 1 := by
  simp [pushSlot, popSlot, h]

theorem pushWord_sp_of_unbounded {s : State} (h : s.config.stackPolicy = .unbounded) (w : Word) :
    (s.pushWord w).sp = s.sp - 2 := by
  have hsecond := (slots_of_unbounded (s := { s with sp := s.pushSlot }) h).1
  rw [pushWord_sp, hsecond, (slots_of_unbounded h).1]
  bv_omega

theorem memRead_pushWord_of_unbounded {s : State} (h : s.config.stackPolicy = .unbounded) (w x : Word) :
    (s.pushWord w).memRead x = if x = s.sp - 2 then lo8 w else if x = s.sp - 1 then hi8 w else s.memRead x := by
  rw [memRead_pushWord, pushWord_sp_of_unbounded h, (slots_of_unbounded h).1]

theorem spAfterPop_of_unbounded {s : State} (h : s.config.stackPolicy = .unbounded) : s.spAfterPop = s.sp + 2 := by
  have hsecond := (slots_of_unbounded (s := { s with sp := s.popSlot }) h).2
  rw [spAfterPop, hsecond, (slots_of_unbounded h).2]
  bv_omega

/-! ### The pair operand of PUSH and POP -/

theorem readStackPair_writeStackPair_same (s : State) (q : StackPair) (v : Word) :
    (s.writeStackPair q v).readStackPair q = v := by
  cases q <;> exact word_hi8_lo8 v

theorem readStackPair_writeStackPair_of_ne (s : State) {q q' : StackPair} (hq : q' ≠ q) (v : Word) :
    (s.writeStackPair q v).readStackPair q' = s.readStackPair q' := by
  cases q <;> cases q'
  case bc.bc | de.de | hl.hl | psw.psw => exact absurd rfl hq
  all_goals rfl

/-- A pair operand is two of the general registers and F (46_stack.md R172, R173). -/
theorem writeStackPair_rest (s : State) (q : StackPair) (v : Word) :
    s.writeStackPair q v = { s with
      a := (s.writeStackPair q v).a, f := (s.writeStackPair q v).f
      b := (s.writeStackPair q v).b, c := (s.writeStackPair q v).c
      d := (s.writeStackPair q v).d, e := (s.writeStackPair q v).e
      h := (s.writeStackPair q v).h, l := (s.writeStackPair q v).l } := by
  cases q <;> rfl

/-! ### The pair operand whose code 3 is SP -/

/-- `SetPointer` under the windowed policy pins the window (20_memory.md R60, decisions D13, D14). -/
theorem setPointer_of_windowed {s : State} (h : s.config.stackPolicy = .windowed) (v : Word) :
    s.setPointer v = { s with sp := v, wpin := true, wmax := v, wmin := v - 255 } := by
  rw [setPointer, h]

theorem setPointer_of_unbounded {s : State} (h : s.config.stackPolicy = .unbounded) (v : Word) :
    s.setPointer v = { s with sp := v } := by
  rw [setPointer, h]

theorem readPair_writePair_same (s : State) (p : Pair) (v : Word) : (s.writePair p v).readPair p = v := by
  cases p with
  | sp => exact s.setPointer_sp v
  | bc | de | hl => exact word_hi8_lo8 v

theorem readPair_writePair_of_ne (s : State) {p q : Pair} (hq : q ≠ p) (v : Word) :
    (s.writePair p v).readPair q = s.readPair q := by
  cases p <;> cases q
  case bc.bc | de.de | hl.hl | sp.sp => exact absurd rfl hq
  all_goals simp [writePair, readPair, bc, de, hl]

/-- What a write to a pair operand does; SP is written by `SetPointer` (10_state.md R22, 20_memory.md R60). -/
theorem writesPair_writePair (s : State) (p : Pair) (v : Word) : WritesPair s (s.writePair p v) p v where
  value := s.readPair_writePair_same p v
  others _ hq := s.readPair_writePair_of_ne hq v
  pinned := by
    rintro ⟨rfl, hc⟩
    rw [writePair, setPointer_of_windowed hc]
    exact ⟨rfl, rfl, rfl⟩
  kept hp := by
    by_cases hsp : p = .sp
    · subst hsp
      cases hc : s.config.stackPolicy with
      | unbounded =>
        rw [writePair, setPointer_of_unbounded hc]
        exact ⟨rfl, rfl, rfl⟩
      | windowed => exact absurd ⟨rfl, hc⟩ hp
    · obtain ⟨hwpin, hwmin, hwmax⟩ := s.writePair_window_of_ne hsp v
      exact ⟨hwpin, hwmax, hwmin⟩
  rest := by
    cases p with
    | sp => cases hc : s.config.stackPolicy <;> simp [writePair, setPointer, hc]
    | bc | de | hl => rfl

theorem readPair_forceCarry (s : State) (c : Bool) (p : Pair) : (s.forceCarry c).readPair p = s.readPair p := by
  cases p <;> simp [readPair, bc, de, hl]

end State

/-- `WritesPair` speaks of a state up to F, so INX and DCX may write Carry after the pair. -/
theorem WritesPair.forceCarry {s t : State} {p : Pair} {v : Word} (h : WritesPair s t p v) (c : Bool) :
    WritesPair s (t.forceCarry c) p v where
  value := (t.readPair_forceCarry c p).trans h.value
  others q hq := (t.readPair_forceCarry c q).trans (h.others q hq)
  pinned hp := by simpa using h.pinned hp
  kept hp := by simpa using h.kept hp
  rest := by
    cases c with
    | false => exact h.rest
    | true =>
      rw [State.forceCarry_true]
      exact congrArg (fun u : State => { u with f := setCY t.f true }) h.rest

/-- The one flag write of INX and DCX: Carry and AuxCarry on wraparound (44_incdec.md R142, R143; decision D9). -/
theorem State.forceCarry_flags (s : State) (wrap : Prop) [Decidable wrap] :
    if wrap then CarryFlags s.f (s.forceCarry (decide wrap)).f true else (s.forceCarry (decide wrap)).f = s.f := by
  by_cases hw : wrap
  · rw [if_pos hw, decide_eq_true hw]
    exact getLsbD_setCY s.f true
  · rw [if_neg hw, decide_eq_false hw, forceCarry_false]

/-- The next state of INX and of DCX, which differ in the value they write and in the one at which they wrap. -/
theorem State.writesPair_and_flags_of_count {s t : State} {p : Pair} {v wrapsAt : Word}
    (ht : t = (s.writePair p v).forceCarry (decide (s.readPair p = wrapsAt))) :
    WritesPair s t p v ∧ if s.readPair p = wrapsAt then CarryFlags s.f t.f true else t.f = s.f := by
  subst ht
  have hflags := (s.writePair p v).forceCarry_flags (s.readPair p = wrapsAt)
  rw [s.writePair_f p v] at hflags
  exact ⟨(s.writesPair_writePair p v).forceCarry _, hflags⟩

/-! ### The statements -/

/-- Settles O27: the pair is written like any pair operand, then Carry is forced on wraparound. -/
theorem incrementAndDecrementAPair : Obligations.IncrementAndDecrementAPair :=
  fun p s => ⟨⟨_, exec_inx p s, State.writesPair_and_flags_of_count rfl⟩,
    ⟨_, exec_dcx p s, State.writesPair_and_flags_of_count rfl⟩⟩

/-- Settles O43: both write a pair operand, SPHL the one that is SP. -/
theorem lxiAndSphlWriteThePair : Obligations.LxiAndSphlWriteThePair :=
  ⟨fun p v s => ⟨_, exec_lxi p v s, s.writesPair_writePair p v, s.writePair_f p v⟩,
    fun s => ⟨_, exec_sphl s, s.writesPair_writePair .sp s.hl, s.setPointer_f s.hl⟩⟩

/-- Settles O30: `PopWord` moves SP alone, and the operand then takes the word that stood at the top of the stack. -/
theorem popLoadsThePair : Obligations.PopLoadsThePair := by
  intro q s
  refine ⟨_, exec_pop q s, State.readStackPair_writeStackPair_same _ q _, State.writeStackPair_sp _ q _, fun q' hq => ?_, ?_⟩
  · rw [State.readStackPair_writeStackPair_of_ne _ hq]
    cases q' <;> rfl
  · rw [State.writeStackPair_rest]
    rfl

/-- Settles O13, from the law of a read after a write: a word access is two of them, at distinct addresses. -/
theorem memoryAccessIsByteWise : Obligations.MemoryAccessIsByteWise := by
  intro s x
  refine ⟨fun v => ⟨?_, fun y hy => ?_, rfl⟩, toNat_word _ _, fun w => ⟨?_, ?_, fun y hy hy' => ?_⟩⟩
  · rw [State.memRead_memWrite, if_pos rfl]
  · rw [State.memRead_memWrite, if_neg hy]
  · have hne : x ≠ x + 1 := by bv_omega
    rw [State.memWrite16_eq, State.memRead_memWrite, if_neg hne, State.memRead_memWrite, if_pos rfl]
  · rw [State.memWrite16_eq, State.memRead_memWrite, if_pos rfl]
  · rw [State.memWrite16_eq, State.memRead_memWrite, if_neg hy', State.memRead_memWrite, if_neg hy]

/-- Settles O31: every byte after `PushWord` is known, and under the unbounded policy so are the addresses. -/
theorem unboundedPushAndPopOfAWord : Obligations.UnboundedPushAndPopOfAWord := by
  intro s w hpolicy
  have hread := State.memRead_pushWord_of_unbounded hpolicy w
  refine ⟨State.pushWord_sp_of_unbounded hpolicy w, ?_, ?_, fun x hhigh hlow => ?_, ?_⟩
  · have hne : s.sp - 1 ≠ s.sp - 2 := by bv_omega
    rw [hread, if_neg hne, if_pos rfl]
  · rw [hread, if_pos rfl]
  · rw [hread, if_neg hlow, if_neg hhigh]
  · apply Prod.ext
    · rw [State.popWord_fst, State.topWord, (State.slots_of_unbounded hpolicy).2]
    · rw [State.popWord_snd, State.spAfterPop_of_unbounded hpolicy]

end Sys2Proof.Machine
end

section
/-! PROOFS. The opcode map that the decoder reads and the patterns that the encoder builds are one table (30_encoding.md R80 to
R84): every instruction with an encoding stands in the map at its first byte, and every entry of the map encodes to the byte it
stands at. -/

namespace Sys2Proof

open Machine (word hi8 lo8 word_hi8_lo8 hi8_word lo8_word)

/-! ### What the decoder reads -/

/-- The bytes are an opcode with as many operand bytes as its entry of the opcode map takes (R80), and `i` is what that entry
makes of them. -/
inductive ReadsAs : List Byte → Instr → Prop where
  | f1 {op : Byte} {i : Instr} (entry : formOf op = .f1 i) : ReadsAs [op] i
  | f2 {op : Byte} {mk : Byte → Instr} (entry : formOf op = .f2 mk) (v : Byte) : ReadsAs [op, v] (mk v)
  | f3 {op : Byte} {mk : Word → Instr} (entry : formOf op = .f3 mk) (v : Word) : ReadsAs (bytes3 op v) (mk v)

theorem bytes3_eq (op : Byte) (v : Word) : bytes3 op v = [op, lo8 v, hi8 v] := rfl

/-- Low byte first (R82, decision D12). -/
theorem bytes3_word (op b1 b2 : Byte) : bytes3 op (word b2 b1) = [op, b1, b2] := by
  rw [bytes3_eq, lo8_word, hi8_word]

theorem decode_of_readsAs {bytes : List Byte} {i : Instr} (h : ReadsAs bytes i) (rest : List Byte) :
    decode (bytes ++ rest) = .ok (i, rest) := by
  cases h with
  | f1 entry => simp [decode, entry]
  | f2 entry v => simp [decode, entry]
  | @f3 op mk entry v =>
    have hv : hi8 v ++ lo8 v = v := word_hi8_lo8 v
    simp [decode, entry, bytes3_eq, hv]

/-- The converse: the decoder answers nothing but what the entry at the first byte makes of the bytes in front. -/
theorem exists_readsAs_of_decode {bytes rest : List Byte} {i : Instr} (h : decode bytes = .ok (i, rest)) :
    ∃ front, ReadsAs front i ∧ front ++ rest = bytes := by
  cases bytes with
  | nil => simp [decode] at h
  | cons op tail =>
    cases entry : formOf op with
    | f1 j =>
      obtain ⟨rfl, rfl⟩ : j = i ∧ tail = rest := by simpa [decode, entry] using h
      exact ⟨_, .f1 entry, rfl⟩
    | f2 mk =>
      match tail with
      | [] => simp [decode, entry] at h
      | b1 :: tail =>
        obtain ⟨rfl, rfl⟩ : mk b1 = i ∧ tail = rest := by simpa [decode, entry] using h
        exact ⟨_, .f2 entry b1, rfl⟩
    | f3 mk =>
      match tail with
      | [] | [_] => simp [decode, entry] at h
      | b1 :: b2 :: tail =>
        obtain ⟨rfl, rfl⟩ : mk (b2 ++ b1) = i ∧ tail = rest := by simpa [decode, entry] using h
        exact ⟨_, .f3 entry (word b2 b1), congrArg (· ++ tail) (bytes3_word op b1 b2)⟩

/-! ### The map of R83 against the patterns of R84 -/

/-- The encoder agrees with an entry that stands at `op`: at every operand, the instruction it makes is well-formed and encodes to
`op` and the operand's bytes. -/
def Form.EncodesAt (op : Byte) : Form → Prop
  | .f1 i => i.wf = true ∧ encode i = [op]
  | .f2 mk => ∀ v, (mk v).wf = true ∧ encode (mk v) = [op, v]
  | .f3 mk => ∀ v, (mk v).wf = true ∧ encode (mk v) = bytes3 op v

/-- Some entry of the map makes `i`, and the encoder agrees with that entry at every operand. -/
inductive InMap : Instr → Prop where
  | f1 {op : Byte} {i : Instr} (agree : (Form.f1 i).EncodesAt op) (entry : formOf op = .f1 i) : InMap i
  | f2 {op : Byte} {mk : Byte → Instr} {v : Byte} (agree : (Form.f2 mk).EncodesAt op) (entry : formOf op = .f2 mk) : InMap (mk v)
  | f3 {op : Byte} {mk : Word → Instr} {v : Word} (agree : (Form.f3 mk).EncodesAt op) (entry : formOf op = .f3 mk) : InMap (mk v)

/-- The comparison of the two tables, mnemonic by mnemonic: the operand codes of R81 fix the opcode, and the map has the
mnemonic there. MOV M,M is shut out, and an unrecognised instruction carries one of the 13 bytes (R87). -/
theorem inMap_of_wf {i : Instr} (h : i.wf = true) : InMap i := by
  cases i with
  | nop | rlc | rrc | ral | rar | daa | cma | stc | cmc | ret | rnz | rz | rnc | rc | rpo | rpe | rp | rm | xthl | pchl | xchg |
    di | sphl | ei => exact .f1 ⟨rfl, rfl⟩ rfl
  | inr r | dcr r | add r | adc r | sub r | sbb r | ana r | xra r | ora r | cmp r => cases r <;> exact .f1 ⟨rfl, rfl⟩ rfl
  | inx p | dcx p | dad p | stax p | ldax p | push p | pop p => cases p <;> exact .f1 ⟨rfl, rfl⟩ rfl
  | mov dst src =>
    cases dst <;> cases src
    case m.m => exact absurd h (by decide)
    all_goals exact .f1 ⟨rfl, rfl⟩ rfl
  | rst n =>
    have hn : n = 0 ∨ n = 1 ∨ n = 2 ∨ n = 3 ∨ n = 4 ∨ n = 5 ∨ n = 6 ∨ n = 7 := by revert n; decide
    rcases hn with rfl | rfl | rfl | rfl | rfl | rfl | rfl | rfl <;> exact .f1 ⟨rfl, rfl⟩ rfl
  | unrecognised op =>
    simp only [Instr.wf, unrecognisedBytes, List.contains_iff_mem, List.mem_cons, List.not_mem_nil, or_false] at h
    rcases h with rfl | rfl | rfl | rfl | rfl | rfl | rfl | rfl | rfl | rfl | rfl | rfl | rfl <;> exact .f1 ⟨rfl, rfl⟩ rfl
  | mvi r => cases r <;> exact .f2 (fun _ => ⟨rfl, rfl⟩) rfl
  | adi | aci | sui | sbi | ani | xri | ori | cpi | outPort | inPort => exact .f2 (fun _ => ⟨rfl, rfl⟩) rfl
  | lxi p => cases p <;> exact .f3 (fun _ => ⟨rfl, rfl⟩) rfl
  | shld | lhld | sta | lda | jmp | call | jnz | jz | jnc | jc | jpo | jpe | jp | jm | cnz | cz | cnc | cc | cpo | cpe | cp | cm =>
    exact .f3 (fun _ => ⟨rfl, rfl⟩) rfl

theorem InMap.readsAs_encode {i : Instr} (h : InMap i) : ReadsAs (encode i) i := by
  cases h with
  | f1 agree entry => exact agree.2 ▸ .f1 entry
  | f2 agree entry => exact (agree _).2 ▸ .f2 entry _
  | f3 agree entry => exact (agree _).2 ▸ .f3 entry _

theorem InMap.encodesAt_head {i : Instr} (h : InMap i) : (formOf ((encode i).headD 0)).EncodesAt ((encode i).headD 0) := by
  cases h with
  | f1 agree entry => simpa only [agree.2, List.headD_cons, entry] using agree
  | @f2 op mk v agree entry => simpa only [(agree v).2, List.headD_cons, entry] using agree
  | @f3 op mk v agree entry => simpa only [(agree v).2, bytes3, List.headD_cons, entry] using agree

/-- Every byte is an opcode: it is the first byte of the encoding of what the decoder makes of it (40_dispatch.md R103). -/
theorem decodeBytes_wf_and_head (op : Byte) :
    (decodeBytes op 0 0).wf = true ∧ (encode (decodeBytes op 0 0)).headD 0 = op := by
  revert op
  decide

/-- The encoder agrees with every entry of the map, for the comparison by mnemonics reaches every opcode. -/
theorem Form.encodesAt_of_entry {op : Byte} {x : Form} (entry : formOf op = x) : x.EncodesAt op := by
  obtain ⟨hwf, hhead⟩ := decodeBytes_wf_and_head op
  have h := (inMap_of_wf hwf).encodesAt_head
  rwa [hhead, entry] at h

theorem wf_and_encode_of_readsAs {bytes : List Byte} {i : Instr} (h : ReadsAs bytes i) : i.wf = true ∧ encode i = bytes := by
  cases h with
  | f1 entry => exact Form.encodesAt_of_entry entry
  | f2 entry v => exact Form.encodesAt_of_entry entry v
  | f3 entry v => exact Form.encodesAt_of_entry entry v

/-! ### The statements -/

/-- Settles O6: the map makes a well-formed instruction of its own encoding, and the decoder follows the map. -/
theorem decodeOfEncodeIsTheInstruction : Obligations.DecodeOfEncodeIsTheInstruction :=
  fun _ hwf rest => decode_of_readsAs (inMap_of_wf hwf).readsAs_encode rest

/-- Settles O7: the decoder reads some bytes in front by the map, and these are the encoding of what it read. -/
theorem encodeOfDecodeIsTheBytes : Obligations.EncodeOfDecodeIsTheBytes := by
  intro bytes i rest h
  obtain ⟨front, hfront, rfl⟩ := exists_readsAs_of_decode h
  obtain ⟨hwf, hencode⟩ := wf_and_encode_of_readsAs hfront
  exact ⟨hwf, by rw [hencode]⟩

end Sys2Proof
end

section
/-! PROOFS. What one `Step` does (40_dispatch.md R100 to R105): it executes the instruction that the guarded bytes at pc decode to,
and returns the cost of the opcode byte, which lies where the range of CYCLES puts it (70_reset_and_hazards.md R270). -/

namespace Sys2Proof

/-! ### Opcode bytes -/

/-- The 13 bytes outside the accepted set stand in the map as themselves (30_encoding.md R87). -/
theorem formOf_of_mem_unrecognisedBytes {op : Byte} (h : op ∈ unrecognisedBytes) : formOf op = .f1 (.unrecognised op) := by
  fin_cases h <;> rfl

theorem decodeBytes_of_mem_unrecognisedBytes {op : Byte} (h : op ∈ unrecognisedBytes) (b1 b2 : Byte) :
    decodeBytes op b1 b2 = .unrecognised op := by
  rw [decodeBytes, formOf_of_mem_unrecognisedBytes h, Form.build]

theorem instrLength_of_mem_unrecognisedBytes {op : Byte} (h : op ∈ unrecognisedBytes) : instrLength op = 1 := by
  rw [instrLength, formOf_of_mem_unrecognisedBytes h, Form.length]

/-- What three bytes decode to, read off the opcode map: the length of the instruction is what the decoder consumes. -/
theorem decode_three_eq_ok {op b1 b2 : Byte} {i : Instr} {after : List Byte} (h : decode [op, b1, b2] = .ok (i, after)) :
    i = decodeBytes op b1 b2 ∧ 3 - after.length = instrLength op := by
  rw [decode_cons3] at h
  obtain ⟨rfl, rfl⟩ := Prod.mk.inj (Except.ok.inj h)
  have hpos : 1 ≤ instrLength op := (formOf op).length_pos
  have hle : instrLength op ≤ 3 := (formOf op).length_le
  refine ⟨rfl, ?_⟩
  rw [List.length_drop, List.length_cons, List.length_singleton]
  omega

/-! ### The documented costs, by opcode byte -/

theorem pos_of_costAllowed {op : Byte} {n : Nat} (h : costAllowed op n = true) : 0 < n :=
  of_decide_eq_true (Bool.and_eq_true_iff.1 h).1

theorem mem_of_costAllowed {op : Byte} {n : Nat} {costs : List Nat} (h : costAllowed op n = true)
    (hcosts : documentedCosts (decodeBytes op 0 0) = some costs) : n ∈ costs := by
  simp only [costAllowed, hcosts, Option.all_some, Bool.and_eq_true, List.contains_iff_mem] at h
  exact h.2

/-- Rows 4x to Bx of the map are MOV and the register arithmetic, but for the unrecognised 0x76: M is the source in columns 6
and E, and the destination from 0x70 to 0x77 (30_encoding.md R83). -/
theorem documentedCosts_of_move_or_arithmetic (op : Byte) : 0x40 ≤ op.toNat → op.toNat < 0xC0 → op.toNat ≠ 0x76 →
    documentedCosts (decodeBytes op 0 0) = some (if op.toNat % 8 = 6 ∨ op.toNat / 8 = 0x0E then [7] else [4, 5]) := by
  revert op
  decide

/-- INR and DCR stand in columns 4, 5, C and D of rows 0x to 3x; their forms with M are 0x34 and 0x35 (30_encoding.md R83). -/
theorem documentedCosts_of_count_register (op : Byte) : op.toNat < 0x40 → op.toNat % 8 = 4 ∨ op.toNat % 8 = 5 →
    op.toNat / 8 ≠ 6 → documentedCosts (decodeBytes op 0 0) = some [4, 5] := by
  revert op
  decide

/-- INR M, DCR M and MVI M (30_encoding.md R83). -/
theorem documentedCosts_of_memory_form (op : Byte) : op.toNat = 0x34 ∨ op.toNat = 0x35 ∨ op.toNat = 0x36 →
    documentedCosts (decodeBytes op 0 0) = some [7, 10] := by
  revert op
  decide

theorem costAllowed_one_of_mem_unrecognisedBytes {op : Byte} (h : op ∈ unrecognisedBytes) : costAllowed op 1 = true := by
  simp [costAllowed, decodeBytes_of_mem_unrecognisedBytes h, documentedCosts]

namespace Machine

/-! ### The cost of a step -/

theorem State.stepCost_eq (s : State) (op : Byte) :
    s.stepCost op = if op ∈ unrecognisedBytes then 1 else s.config.cycles.getD op.toNat 1 := by
  simp only [State.stepCost, List.contains_iff_mem]

/-- Parameters in their range make the number that `Step` returns an allowed cost, by either branch of R270. -/
theorem State.costAllowed_stepCost {s : State} (h : s.config.wf = true) (op : Byte) : costAllowed op (s.stepCost op) = true := by
  rw [s.stepCost_eq]
  split
  · exact costAllowed_one_of_mem_unrecognisedBytes ‹_›
  · exact Config.costAllowed_of_wf h op

/-! ### One step -/

/-- Both ways of reaching `Step` run it with the rest of the schedule (log 5). -/
theorem step_of_stepsNext {s : State} {rest : List DriverAction} (h : s.StepsNext rest) :
    step s = ({ s with schedule := rest } : State).stepInstr := by
  obtain ⟨hnil, rfl⟩ | hcons := h
  · rw [step_of_schedule_nil hnil, ← hnil]
  · rw [step_of_schedule_cons hcons]
    rfl

/-- Where `exec` answers `t` for the fetched instruction, the step is `t` with the end of `Step` (40_dispatch.md R100). -/
theorem step_of_exec {s t u : State} {rest : List DriverAction} {i : Instr} (h : s.StepsNext rest)
    (hfetch : ({ s with schedule := rest } : State).fetchInstr = (i, u)) (ht : exec i u = .next t) :
    step s = .next (t.finishStep (s.streamByte 0)) := by
  rw [step_of_stepsNext h, State.stepInstr_of_exec (by rw [hfetch]; exact ht), State.opcode_eq]
  rfl

/-- No instruction changes the parameters, so the number returned is the one that they give the opcode byte before the step. -/
theorem returned_of_step {s t : State} {rest : List DriverAction} (h : s.StepsNext rest) (hstep : step s = .next t) :
    t.returned = .cycles (s.stepCost (s.streamByte 0)) := by
  rw [step_of_stepsNext h] at hstep
  obtain ⟨u, hu, rfl⟩ := State.stepInstr_eq_next hstep
  obtain ⟨-, -, hconfig, -⟩ := exec_driverState hu
  rw [State.fetchInstr_eq] at hconfig
  rw [State.opcode_eq, s.stepCost_eq, ← hconfig, ← u.stepCost_eq]
  rfl

/-- Below the trigger of the guard (decision D3) the stream is memory from pc on, and a fetch moves pc by one. -/
theorem State.stream_of_pc_ne {s : State} (h : s.pc ≠ 0xFFFF) : s.streamByte 0 = s.memRead s.pc ∧ s.pcAfter 1 = s.pc + 1 := by
  have hfetch := s.fetch8_eq
  rw [State.fetch8, if_neg h] at hfetch
  obtain ⟨hbyte, hstate⟩ := Prod.mk.inj hfetch
  exact ⟨hbyte.symm, (congrArg State.pc hstate).symm⟩

/-- An unrecognised byte is fetched as itself, and pc moves past that one byte (40_dispatch.md R105). -/
theorem State.fetchInstr_of_mem_unrecognisedBytes {s : State} (hpc : s.pc ≠ 0xFFFF) (hop : s.memRead s.pc ∈ unrecognisedBytes) :
    s.fetchInstr = (.unrecognised (s.memRead s.pc), { s with pc := s.pc + 1 }) := by
  obtain ⟨hbyte, hafter⟩ := State.stream_of_pc_ne hpc
  rw [s.fetchInstr_eq, hbyte, decodeBytes_of_mem_unrecognisedBytes hop, instrLength_of_mem_unrecognisedBytes hop, hafter]

/-! ### The statements -/

/-- Settles O12: the number returned is that of the opcode byte, and the document fixes the costs of the byte's class. -/
theorem stepReturnsTheCostOfTheOpcode : Obligations.StepReturnsTheCostOfTheOpcode := by
  intro s t rest hs hstep
  have hret := returned_of_step hs hstep
  refine ⟨by rw [hret, s.stepCost_eq], ?_⟩
  rintro hwf n _ hn rfl
  obtain rfl : s.stepCost (s.streamByte 0) = n := Returned.cycles.inj (hret.symm.trans hn)
  have hallowed := State.costAllowed_stepCost hwf (s.streamByte 0)
  refine ⟨pos_of_costAllowed hallowed, fun hlow hhigh hne => ?_, fun hhigh hcol hrow => ?_, fun hop => ?_⟩
  · have hmem := mem_of_costAllowed hallowed (documentedCosts_of_move_or_arithmetic _ hlow hhigh hne)
    split_ifs at hmem ⊢ <;> simpa using hmem
  · simpa using mem_of_costAllowed hallowed (documentedCosts_of_count_register _ hhigh hcol hrow)
  · simpa using mem_of_costAllowed hallowed (documentedCosts_of_memory_form _ hop)

/-- Settles O10: the decoder and the fetch read the same entry of the opcode map, and `exec` is total. -/
theorem stepRunsTheFetchedInstruction : Obligations.StepRunsTheFetchedInstruction := by
  intro s rest i after hs hdecode
  obtain ⟨rfl, hlength⟩ := decode_three_eq_ok hdecode
  rw [hlength]
  obtain ⟨t, ht⟩ := exists_exec_eq_next (decodeBytes (s.streamByte 0) (s.streamByte 1) (s.streamByte 2))
    { s with pc := s.pcAfter (instrLength (s.streamByte 0)), schedule := rest }
  exact ⟨t, ht, step_of_exec hs (State.fetchInstr_eq _) ht⟩

/-- Settles O14: it is the law of NOP's arm. -/
theorem nopChangesNothing : Obligations.NopChangesNothing :=
  exec_nop

/-- Settles O15: the byte is fetched as the unrecognised instruction, with pc one past it, so the record's pc - 1 is where the
byte stood. -/
theorem unrecognisedOpcodeOnlyReports : Obligations.UnrecognisedOpcodeOnlyReports := by
  refine ⟨exec_unrecognised, fun s rest hs hpc hop => ?_⟩
  obtain ⟨hbyte, -⟩ := State.stream_of_pc_ne hpc
  have hfetch : ({ s with schedule := rest } : State).fetchInstr =
      (.unrecognised (s.memRead s.pc), { s with pc := s.pc + 1, schedule := rest }) :=
    State.fetchInstr_of_mem_unrecognisedBytes hpc hop
  rw [step_of_exec hs hfetch (exec_unrecognised _ _), hbyte, State.finishStep, State.stepCost_eq, if_pos hop, State.emitDiag,
    BitVec.add_sub_cancel]

end Machine

end Sys2Proof
end

section
/-! PROOFS. What a write to a register operand does, M being the byte at HL (10_state.md R21), and so what the moves do
(41_move.md R110, R111). -/

namespace Sys2Proof.Machine

namespace State

theorem readReg_writeReg_same (s : State) (r : Reg8) (v : Byte) : (s.writeReg r v).readReg r = v := by
  cases r with
  | m => exact (s.memRead_memWrite s.hl s.hl v).trans (if_pos rfl)
  | _ => rfl

/-- M is left out as the operand read: a write to H or L moves the cell that it names. -/
theorem readReg_writeReg_of_ne (s : State) {r x : Reg8} (hx : x ≠ r) (hm : x ≠ .m) (v : Byte) :
    (s.writeReg r v).readReg x = s.readReg x := by
  cases r <;> cases x
  case a.a | b.b | c.c | d.d | e.e | h.h | l.l => exact absurd rfl hx
  case a.m | b.m | c.m | d.m | e.m | h.m | l.m | m.m => exact absurd rfl hm
  all_goals rfl

/-- M alone stores, and at HL alone. -/
theorem memRead_writeReg_of_not_cell (s : State) {r : Reg8} {x : Word} (hx : ¬(r = .m ∧ x = s.hl)) (v : Byte) :
    (s.writeReg r v).memRead x = s.memRead x := by
  cases r with
  | m => exact (s.memRead_memWrite s.hl x v).trans (if_neg fun h => hx ⟨rfl, h⟩)
  | _ => rfl

theorem writesOperand_writeReg (s : State) (r : Reg8) (v : Byte) : WritesOperand s (s.writeReg r v) r v where
  value := s.readReg_writeReg_same r v
  others _ hx hm := s.readReg_writeReg_of_ne hx hm v
  memory _ hx := s.memRead_writeReg_of_not_cell hx v
  rest := by cases r <;> rfl

end State

/-- Settles O16: both write a register operand, MOV with what its source operand reads. -/
theorem moveCopiesTheOperand : Obligations.MoveCopiesTheOperand :=
  ⟨fun dst src s => ⟨_, exec_mov dst src s, s.writesOperand_writeReg dst (s.readReg src), s.writeReg_f dst (s.readReg src)⟩,
    fun r v s => ⟨_, exec_mvi r v s, s.writesOperand_writeReg r v, s.writeReg_f r v⟩⟩

end Sys2Proof.Machine
end

section
/-! PROOFS. What a flag byte holds after `SetZSP` and `SetCY` (10_state.md R28, R29), and so what the logic instructions do
(42_logic.md R120 to R125). -/

namespace Sys2Proof.Machine

/-! ### Parity: a count of 1 bits is even where their exclusive or is 0 -/

theorem decide_countP_even {α : Type} (p : α → Bool) (l : List α) :
    decide (l.countP p % 2 = 0) = !(l.foldr (fun x b => p x ^^ b) false) := by
  induction l with
  | nil => rfl
  | cons x l ih =>
    rw [List.foldr_cons, ← Bool.xor_not, ← ih, List.countP_cons]
    by_cases hx : p x = true
    · rw [if_pos hx, hx, Bool.true_xor, ← decide_not, decide_eq_decide]
      omega
    · rw [if_neg hx, Nat.add_zero, Bool.eq_false_of_not_eq_true hx, Bool.false_xor]

theorem decide_popcount_even (v : Byte) :
    decide (popcount v % 2 = 0) =
      !(v.getLsbD 0 ^^ v.getLsbD 1 ^^ v.getLsbD 2 ^^ v.getLsbD 3 ^^ v.getLsbD 4 ^^ v.getLsbD 5 ^^ v.getLsbD 6 ^^
        v.getLsbD 7) := by
  have hbits : List.range 8 = [0, 1, 2, 3, 4, 5, 6, 7] := rfl
  rw [popcount, decide_countP_even, hbits]
  simp only [List.foldr_cons, List.foldr_nil, Bool.xor_false, Bool.xor_assoc]

/-! ### The flag primitives -/

/-- `SetZSP` leaves Carry and AuxCarry, so it alone makes the flags of its result with the old two (10_state.md R28). -/
theorem resultFlags_setZSP (f : Byte) (t : Int) : ResultFlags f (setZSP f t) (low8 t) (flagC f) (flagAC f) where
  zero := by rw [flagZ_setZSP, decide_eq_true_iff]
  sign := by rw [flagS_setZSP, decide_eq_true_iff]
  parity := by rw [flagP_setZSP, decide_popcount_even]
  carry := flagC_setZSP f t
  auxCarry := flagAC_setZSP f t
  storage k hk := by rw [getLsbD_setZSP, if_neg (by omega), if_neg (by omega), if_neg (by omega)]

/-- `SetCY` replaces Carry and AuxCarry and keeps what the other flags say (10_state.md R29). -/
theorem ResultFlags.setCY {f g v : Byte} {cy ac : Bool} (h : ResultFlags f g v cy ac) (c : Bool) :
    ResultFlags f (setCY g c) v c c where
  zero := by rw [flagZ_setCY]; exact h.zero
  sign := by rw [flagS_setCY]; exact h.sign
  parity := (flagP_setCY g c).trans h.parity
  carry := flagC_setCY g c
  auxCarry := flagAC_setCY g c
  storage k hk := by rw [getLsbD_setCY, if_neg (by omega)]; exact h.storage k hk

theorem resultFlags_updateFlagsAdd (f : Byte) (t : Int) :
    ResultFlags f (updateFlagsAdd f t) (low8 t) (decide (t > 0xFF)) (decide (t > 0xFF)) :=
  (resultFlags_setZSP f t).setCY _

/-- A byte never passes 0xFF, so both carries are cleared (42_logic.md, common text). -/
theorem resultFlags_updateFlagsAdd_toNat (f v : Byte) : ResultFlags f (updateFlagsAdd f v.toNat) v false false := by
  have hcarry : decide ((v.toNat : Int) > 0xFF) = false := decide_eq_false (by have := v.isLt; omega)
  simpa only [low8_toNat, hcarry] using resultFlags_updateFlagsAdd f v.toNat

/-! ### The statement -/

/-- The six instructions differ in the operand `v` and in what `op` makes of a bit of A and one of `v`. -/
theorem exists_next_of_exec_eq_logicA {i : Instr} {s : State} {v result : Byte} {op : Bool → Bool → Bool}
    (hexec : exec i s = .next (s.logicA result))
    (hbits : ∀ k, result.getLsbD k = op (s.a.getLsbD k) (v.getLsbD k)) :
    ∃ t, exec i s = .next t ∧ t = { s with a := t.a, f := t.f } ∧
      (∀ k, k < 8 → t.a.getLsbD k = op (s.a.getLsbD k) (v.getLsbD k)) ∧ ResultFlags s.f t.f t.a false false :=
  ⟨_, hexec, rfl, fun k _ => hbits k, resultFlags_updateFlagsAdd_toNat s.f result⟩

/-- Settles O17: all six write A and the flags by `logicA`, and each bitwise operation acts on every bit alone. -/
theorem logicWritesAAndClearsCarry : Obligations.LogicWritesAAndClearsCarry :=
  ⟨fun r s => ⟨exists_next_of_exec_eq_logicA (exec_ana r s) fun _ => BitVec.getLsbD_and,
      exists_next_of_exec_eq_logicA (exec_xra r s) fun _ => BitVec.getLsbD_xor,
      exists_next_of_exec_eq_logicA (exec_ora r s) fun _ => BitVec.getLsbD_or⟩,
    fun v s => ⟨exists_next_of_exec_eq_logicA (exec_ani v s) fun _ => BitVec.getLsbD_and,
      exists_next_of_exec_eq_logicA (exec_xri v s) fun _ => BitVec.getLsbD_xor,
      exists_next_of_exec_eq_logicA (exec_ori v s) fun _ => BitVec.getLsbD_or⟩⟩

end Sys2Proof.Machine
end

section
/-! PROOFS. What addition, subtraction and comparison do (45_arith.md R150 to R159): the sum or difference is an integer, of which
A takes the low byte, and Carry says whether it left the range of a byte. -/

namespace Sys2Proof.Machine

/-! ### The old Carry counts with the operand -/

theorem carryIn_eq_toNat (f : Byte) : carryIn f = (flagC f).toNat := by
  unfold carryIn
  cases flagC f <;> rfl

theorem add_carryIn (x : Int) (n : Nat) (f : Byte) : x + n + carryIn f = x + (n + (flagC f).toNat : Nat) := by
  rw [carryIn_eq_toNat, Int.natCast_add, Int.add_assoc]

theorem sub_carryIn (x : Int) (n : Nat) (f : Byte) : x - n - carryIn f = x - (n + (flagC f).toNat : Nat) := by
  rw [carryIn_eq_toNat, Int.natCast_add, Int.sub_sub]

/-! ### The low byte and the flags of a sum and of a difference -/

theorem toNat_low8_natCast (n : Nat) : (low8 n).toNat = n % 256 := by
  exact_mod_cast toNat_low8 n

theorem low8_sub_toNat (a v : Byte) : low8 (a.toNat - v.toNat) = a - v := by
  have hlow := toNat_low8 (a.toNat - v.toNat)
  bv_omega

/-- Of the two bounds that `UpdateFlagsSub` tests a difference can only pass the lower one: it is a borrow (10_state.md R31). -/
theorem resultFlags_updateFlagsSub_sub (f a : Byte) (n : Nat) :
    ResultFlags f (updateFlagsSub f (a.toNat - n)) (low8 (a.toNat - n)) (decide (a.toNat < n)) (decide (a.toNat < n)) := by
  have hborrow : (a.toNat : Int) - n < 0 ∨ (a.toNat : Int) - n > 0xFF ↔ a.toNat < n := by
    have := a.isLt
    omega
  simpa only [updateFlagsSub, hborrow] using (resultFlags_setZSP f (a.toNat - n)).setCY _

/-! ### The statements -/

/-- The four additions differ in the number `n` that is added. -/
theorem exists_next_of_exec_eq_addResult {i : Instr} {s : State} {sum : Int} {n : Nat}
    (hexec : exec i s = .next (s.addResult sum)) (hsum : sum = s.a.toNat + n) :
    ∃ t, exec i s = .next t ∧ t = { s with a := t.a, f := t.f } ∧ t.a.toNat = (s.a.toNat + n) % 256 ∧
      ResultFlags s.f t.f t.a (decide (s.a.toNat + n > 255)) (decide (s.a.toNat + n > 255)) := by
  obtain rfl : sum = (s.a.toNat + n : Nat) := hsum
  have hcarry : ((s.a.toNat + n : Nat) : Int) > 0xFF ↔ s.a.toNat + n > 255 := by omega
  have hflags := resultFlags_updateFlagsAdd s.f (s.a.toNat + n : Nat)
  simp only [hcarry] at hflags
  exact ⟨_, hexec, rfl, toNat_low8_natCast _, hflags⟩

/-- The four subtractions differ in the number `n` that is subtracted. -/
theorem exists_next_of_exec_eq_subResult {i : Instr} {s : State} {difference : Int} {n : Nat}
    (hexec : exec i s = .next (s.subResult difference)) (hdifference : difference = s.a.toNat - n) :
    ∃ t, exec i s = .next t ∧ t = { s with a := t.a, f := t.f } ∧ (t.a.toNat : Int) = ((s.a.toNat : Int) - n) % 256 ∧
      ResultFlags s.f t.f t.a (decide (s.a.toNat < n)) (decide (s.a.toNat < n)) := by
  subst hdifference
  exact ⟨_, hexec, rfl, toNat_low8 _, resultFlags_updateFlagsSub_sub s.f s.a n⟩

/-- The two comparisons differ in the operand `v`; Zero is set by a difference of 0, so by equality. -/
theorem exists_next_of_exec_eq_compareResult {i : Instr} {s : State} {v : Byte}
    (hexec : exec i s = .next (s.compareResult (s.a.toNat - v.toNat))) :
    ∃ t, exec i s = .next t ∧ t = { s with f := t.f } ∧ (flagZ t.f = true ↔ s.a = v) ∧
      ResultFlags s.f t.f (s.a - v) (decide (s.a.toNat < v.toNat)) (decide (s.a.toNat < v.toNat)) := by
  have hflags := resultFlags_updateFlagsSub_sub s.f s.a v.toNat
  rw [low8_sub_toNat] at hflags
  exact ⟨_, hexec, rfl, hflags.zero.trans sub_eq_zero, hflags⟩

/-- Settles O18: all four write A and the flags by `addResult`, ADC and ACI with the old Carry in the number added. -/
theorem additionWritesASumAndFlags : Obligations.AdditionWritesASumAndFlags :=
  ⟨fun r s => ⟨exists_next_of_exec_eq_addResult (exec_add r s) rfl,
      exists_next_of_exec_eq_addResult (exec_adc r s) (add_carryIn _ _ _)⟩,
    fun v s => ⟨exists_next_of_exec_eq_addResult (exec_adi v s) rfl,
      exists_next_of_exec_eq_addResult (exec_aci v s) (add_carryIn _ _ _)⟩⟩

/-- Settles O19: all four write A and the flags by `subResult`, SBB and SBI with the old Carry in the number subtracted. -/
theorem subtractionWritesADifferenceAndFlags : Obligations.SubtractionWritesADifferenceAndFlags :=
  ⟨fun r s => ⟨exists_next_of_exec_eq_subResult (exec_sub r s) rfl,
      exists_next_of_exec_eq_subResult (exec_sbb r s) (sub_carryIn _ _ _)⟩,
    fun v s => ⟨exists_next_of_exec_eq_subResult (exec_sui v s) rfl,
      exists_next_of_exec_eq_subResult (exec_sbi v s) (sub_carryIn _ _ _)⟩⟩

/-- Settles O20: both write the flags of the difference by `compareResult`. -/
theorem compareWritesFlagsOnly : Obligations.CompareWritesFlagsOnly :=
  ⟨fun r s => exists_next_of_exec_eq_compareResult (exec_cmp r s),
    fun v s => exists_next_of_exec_eq_compareResult (exec_cpi v s)⟩

end Sys2Proof.Machine
end

section
/-! PROOFS. What the stack instructions other than POP do: PUSH, CALL and RST push one word, and RET pops one (46_stack.md R170,
R171, R174 to R177). -/

namespace Sys2Proof.Machine

/-- `8 * n` fits in a word, so no bit of `n` is lost by the shift (46_stack.md R177). -/
theorem toNat_vector (n : BitVec 3) : (vector n).toNat = n.toNat * 8 := by
  have := n.isLt
  simp only [vector, BitVec.toNat_shiftLeft, BitVec.toNat_setWidth, Nat.shiftLeft_eq]
  omega

/-- `PushesWord` speaks of a state up to pc, so control may go elsewhere after the push. -/
theorem PushesWord.jump {s t : State} {w : Word} (h : PushesWord s t w) (target : Word) :
    PushesWord s (t.jump target) w where
  sp := h.sp
  high := h.high
  low := h.low
  memory := h.memory
  rest := congrArg (State.jump · target) h.rest

/-- The common part of CALL, RST and interrupt entry (46_stack.md R176): the return address pushed is the old pc. -/
theorem State.pushesWord_callTo {s : State} (h : s.WindowOk) (target : Word) : PushesWord s (s.callTo target) s.pc :=
  (State.pushesWord_pushWord h s.pc).jump target

/-- `returnPC` moves pc and SP, each by what stands on the stack, and changes nothing else (46_stack.md R175). -/
theorem State.returnPC_eq (s : State) : s.returnPC = { s with pc := s.topWord, sp := s.spAfterPop } := by
  rw [State.returnPC, State.popWord_fst, State.popWord_snd, State.jump]

/-! ### The statements -/

/-- Settles O29: PUSH is one `PushWord` of the pair, which leaves pc and IE. -/
theorem pushStoresThePair : Obligations.PushStoresThePair :=
  fun q s h => ⟨_, exec_push q s, State.pushesWord_pushWord h _, State.pushWord_pc s _, State.pushWord_ie s _⟩

/-- Settles O33: both are `callTo`, CALL with the address and RST with the vector. -/
theorem callPushesTheReturnAddress : Obligations.CallPushesTheReturnAddress :=
  ⟨fun addr s h => ⟨_, exec_call addr s, State.pushesWord_callTo h addr, State.callTo_pc s addr, State.callTo_ie s addr⟩,
    fun n s h => ⟨_, exec_rst n s, State.pushesWord_callTo h _, toNat_vector n, State.callTo_ie s _⟩⟩

/-- Settles O34: RET is `returnPC`, one `PopWord` and a jump to the word popped. -/
theorem returnPopsThePC : Obligations.ReturnPopsThePC :=
  fun s => by rw [exec_ret, State.returnPC_eq]

end Sys2Proof.Machine
end

section
/-! PROOFS. What the unconditional jumps do: JMP and PCHL are one write of pc (47_branch.md R181, 49_misc_io.md R203). -/

namespace Sys2Proof.Machine

/-- The frame of `jump`: it writes pc alone, so with the old pc put back it is the state it began in. -/
theorem State.jump_restore_pc (s : State) (target : Word) : { s.jump target with pc := s.pc } = s := rfl

/-- HL is `H * 256 + L` (10_state.md R22). -/
theorem State.toNat_hl (s : State) : s.hl.toNat = s.h.toNat * 256 + s.l.toNat := toNat_word s.h s.l

/-! ### The statements -/

/-- Settles O37: both are `jump`, JMP to the address operand and PCHL to HL. -/
theorem jumpWritesThePC : Obligations.JumpWritesThePC :=
  ⟨fun addr s => ⟨_, exec_jmp addr s, State.jump_pc s addr, State.jump_restore_pc s addr⟩,
    fun s => ⟨_, exec_pchl s, State.toNat_hl s, State.jump_restore_pc s s.hl⟩⟩

end Sys2Proof.Machine
end

section
/-! PROOFS. What XCHG does: a write of HL, then one of DE, neither of which the other undoes (49_misc_io.md R205). -/

namespace Sys2Proof.Machine

namespace State

@[simp] theorem setHL_hl (s : State) (v : Word) : (s.setHL v).hl = v := s.readPair_writePair_same .hl v
@[simp] theorem setDE_de (s : State) (v : Word) : (s.setDE v).de = v := s.readPair_writePair_same .de v
@[simp] theorem setDE_hl (s : State) (v : Word) : (s.setDE v).hl = s.hl := rfl

/-- Writes of HL and of DE reach H, L, D and E alone (10_state.md R22). -/
theorem setHL_setDE_rest (s : State) (v w : Word) :
    (s.setHL v).setDE w = { s with h := hi8 v, l := lo8 v, d := hi8 w, e := lo8 w } := rfl

end State

/-! ### The statements -/

/-- Settles O45: HL takes the old DE and keeps it while DE takes the old HL. -/
theorem xchgSwapsHLAndDE : Obligations.XchgSwapsHLAndDE := by
  intro s
  refine ⟨_, exec_xchg s, ?_, State.setDE_de _ s.hl, State.setHL_setDE_rest s s.de s.hl⟩
  calc ((s.setHL s.de).setDE s.hl).hl
      _ = (s.setHL s.de).hl := State.setDE_hl _ s.hl
      _ = s.de := State.setHL_hl s s.de

end Sys2Proof.Machine
end

section
/-! PROOFS. What passes between CORE and the DRIVER: the ports and the shifter behind them (60_exceptions.md R231 to R237),
interrupt entry and the return from it (R224, R225, R228), and the image (70_reset_and_hazards.md R263). -/

namespace Sys2Proof.Machine

namespace State

/-! ### The ports (60_exceptions.md R231 to R237) -/

@[simp] theorem portWrite_shoff_port2 (s : State) (v : Byte) : (s.portWrite 2 v).shoff = v.truncate 3 := rfl
@[simp] theorem portWrite_shift_port2 (s : State) (v : Byte) : (s.portWrite 2 v).shift = s.shift := rfl
@[simp] theorem portWrite_shift_port4 (s : State) (v : Byte) : (s.portWrite 4 v).shift = word v (hi8 s.shift) := rfl

theorem portWrite_rest (s : State) (port v : Byte) :
    s.portWrite port v = { s with shift := (s.portWrite port v).shift, shoff := (s.portWrite port v).shoff } := by
  unfold portWrite
  split
  · rfl
  · split <;> rfl

theorem toNat_portWrite_shoff (s : State) (port v : Byte) :
    (s.portWrite port v).shoff.toNat = if port = 2 then v.toNat % 8 else s.shoff.toNat := by
  by_cases hp : port = 2
  · rw [if_pos hp, hp, portWrite_shoff_port2, BitVec.truncate_eq_setWidth, BitVec.toNat_setWidth]
  · rw [if_neg hp, s.portWrite_shoff_of_ne hp]

theorem toNat_portWrite_shift (s : State) (port v : Byte) :
    (s.portWrite port v).shift.toNat = if port = 4 then v.toNat * 256 + s.shift.toNat / 256 else s.shift.toNat := by
  by_cases hp : port = 4
  · rw [if_pos hp, hp, portWrite_shift_port4, toNat_word, toNat_hi8]
  · rw [if_neg hp, s.portWrite_shift_of_ne hp]

@[simp] theorem portRead_port1 (s : State) : s.portRead 1 = s.inp1 := rfl
@[simp] theorem portRead_port2 (s : State) : s.portRead 2 = s.inp2 := rfl
@[simp] theorem portRead_port3 (s : State) : s.portRead 3 = s.shifterOut := rfl

/-- Every other port is IN_OTHER's (decision D18). -/
theorem portRead_of_ne (s : State) {port : Byte} (h1 : port ≠ 1) (h2 : port ≠ 2) (h3 : port ≠ 3) :
    s.portRead port = Memory.read s.config.inOther port.toNat := by
  rw [portRead, if_neg h1, if_neg h2, if_neg h3]

theorem getLsbD_shifterOut (s : State) {k : Nat} (hk : k < 8) :
    s.shifterOut.getLsbD k = s.shift.getLsbD (8 - s.shoff.toNat + k) := by
  rw [shifterOut, BitVec.truncate_eq_setWidth, BitVec.getLsbD_setWidth, BitVec.getLsbD_ushiftRight, decide_eq_true hk,
    Bool.true_and]

theorem toNat_shifterOut (s : State) : s.shifterOut.toNat = s.shift.toNat / 2 ^ (8 - s.shoff.toNat) % 256 := by
  rw [shifterOut, BitVec.truncate_eq_setWidth, BitVec.toNat_setWidth, BitVec.toNat_ushiftRight, Nat.shiftRight_eq_div_pow]

/-! ### Interrupt entry and return (60_exceptions.md R224, R225, R228) -/

theorem raiseInterrupt_of_enabled {s : State} (h : s.ie = true) (n : BitVec 3) :
    s.raiseInterrupt n = ({ s with ie := false } : State).callTo (vector n) := by
  rw [raiseInterrupt, if_pos h]

theorem raiseInterrupt_of_disabled {s : State} (h : s.ie = false) (n : BitVec 3) : s.raiseInterrupt n = s := by
  rw [raiseInterrupt, if_neg (by rw [h]; decide)]

theorem perform_raiseInterrupt_of_enabled {s : State} (h : s.ie = true) (n : BitVec 3) :
    s.perform (.raiseInterrupt n) = .next { ({ s with ie := false } : State).callTo (vector n) with returned := .nothing } :=
  congrArg (fun t : State => (.next { t with returned := .nothing } : Result)) (raiseInterrupt_of_enabled h n)

theorem perform_raiseInterrupt_of_disabled {s : State} (h : s.ie = false) (n : BitVec 3) :
    s.perform (.raiseInterrupt n) = .next { s with returned := .nothing } :=
  congrArg (fun t : State => (.next { t with returned := .nothing } : Result)) (raiseInterrupt_of_disabled h n)

/-- RET after `callTo`: the word popped is the pc that was pushed (46_stack.md R175, R176). -/
theorem returnPC_callTo {s : State} (h : s.WindowOk) (target : Word) :
    (s.callTo target).returnPC.pc = s.pc ∧ (s.callTo target).returnPC.sp = s.sp := by
  rw [returnPC_eq]
  exact popWord_pushWord h s.pc

/-! ### The image (70_reset_and_hazards.md R263) -/

theorem perform_loadImage (s : State) (bytes : List Byte) : s.perform (.loadImage bytes) = s.loadImage bytes := rfl

theorem loadImage_of_not_loadable {s : State} (bytes : List Byte) (h : s.loadable = false) :
    s.loadImage bytes = .refused .loadImageTooLate := by
  rw [loadImage, if_pos h]

theorem loadImage_of_too_long {s : State} {bytes : List Byte} (h : s.loadable = true) (hlen : memorySize < bytes.length) :
    s.loadImage bytes = .refused .loadImageTooLong := by
  rw [loadImage, if_neg (by rw [h]; decide), if_pos hlen]

theorem loadImage_of_fits {s : State} (h : s.loadable = true) {bytes : List Byte} (hlen : bytes.length ≤ memorySize) :
    s.loadImage bytes = .next { s with mem := Memory.load s.mem 0 bytes, loadable := false, returned := .nothing } := by
  rw [loadImage, if_neg (by rw [h]; decide), if_neg hlen.not_gt]

end State

theorem Memory.read_load_zero (m : Memory) (bytes : List Byte) (y : Nat) :
    (m.load 0 bytes).read y = if y < bytes.length then bytes.getD y 0 else m.read y := by
  rw [Memory.read_load]
  by_cases hy : y < bytes.length
  · rw [dif_pos ⟨Nat.zero_le y, hy⟩, if_pos hy, List.getD_eq_getElem _ _ hy]
    rfl
  · rw [dif_neg fun h => hy h.2, if_neg hy]

/-- `PushesWord` speaks of a state up to IE, so interrupt entry may clear it before the push. -/
theorem PushesWord.of_ie {s t : State} {b : Bool} {w : Word} (h : PushesWord { s with ie := b } t w) : PushesWord s t w :=
  ⟨h.sp, h.high, h.low, h.memory, h.rest⟩

theorem State.WindowOk.ie {s : State} (h : s.WindowOk) (b : Bool) : ({ s with ie := b } : State).WindowOk :=
  h.congr rfl rfl rfl rfl rfl

/-! ### The statements -/

/-- Settles O35: CALL, RST and an accepted interrupt are all `callTo`, which RET undoes; IE is not restored. -/
theorem returnUndoesACall : Obligations.ReturnUndoesACall := by
  intro s h
  refine ⟨fun addr => ⟨_, _, exec_call addr s, exec_ret _, State.returnPC_callTo h addr⟩,
    fun n => ⟨_, _, exec_rst n s, exec_ret _, State.returnPC_callTo h (vector n)⟩, fun n hie => ?_⟩
  rw [State.raiseInterrupt_of_enabled hie]
  obtain ⟨hpc, hsp⟩ := State.returnPC_callTo (h.ie false) (vector n)
  exact ⟨_, exec_ret _, hpc, hsp, rfl⟩

/-- Settles O47: OUT is `portWrite` of A. -/
theorem outWritesTheShifter : Obligations.OutWritesTheShifter :=
  fun port s => ⟨_, exec_outPort port s, s.portWrite_rest port s.a, s.toNat_portWrite_shoff port s.a,
    s.toNat_portWrite_shift port s.a⟩

/-- Settles O48: IN loads A from `portRead`, one law per port. -/
theorem inReadsThePort : Obligations.InReadsThePort := by
  intro port s
  refine ⟨_, exec_inPort port s, rfl, ?_, ?_, ?_, s.portRead_of_ne⟩
  · rintro rfl
    exact s.portRead_port1
  · rintro rfl
    exact s.portRead_port2
  · rintro rfl k hk
    exact s.getLsbD_shifterOut hk

/-- Settles O49: two writes to port 4 fill both bytes of SHIFT, whatever it held, and the write to port 2 leaves them. -/
theorem shifterSelectsAByte : Obligations.ShifterSelectsAByte := by
  intro s x y n
  rw [State.portRead_port3, State.toNat_shifterOut, State.toNat_portWrite_shoff, if_pos rfl, State.portWrite_shift_port2,
    State.portWrite_shift_port4, State.portWrite_shift_port4, hi8_word, toNat_word]

/-- Settles O50: accepted, the request is `callTo` with IE cleared; otherwise it leaves the state, and so nothing for EI to see. -/
theorem interruptIsEnteredOrForgotten : Obligations.InterruptIsEnteredOrForgotten := by
  intro s n rest hs
  rw [step_of_schedule_cons hs]
  refine ⟨fun h hie => ?_, fun hie => ⟨?_, ?_⟩⟩
  · have hpush : PushesWord s (({ s with ie := false } : State).callTo (vector n)) s.pc :=
      (State.pushesWord_callTo (h.ie false) (vector n)).of_ie
    exact ⟨_, State.perform_raiseInterrupt_of_enabled (s := { s with schedule := rest }) hie n, rfl,
      (toNat_vector n).trans (Nat.mul_comm _ _), rfl, hpush⟩
  · exact State.perform_raiseInterrupt_of_disabled (s := { s with schedule := rest }) hie n
  · rw [State.raiseInterrupt_of_disabled hie]

/-- Settles O51: the three branches of `loadImage`; the bytes of the accepted one are those of `Memory.load` from address 0. -/
theorem loadImageCopiesTheImage : Obligations.LoadImageCopiesTheImage := by
  intro s bytes rest hs
  rw [step_of_schedule_cons hs, State.perform_loadImage]
  refine ⟨fun h hlen => ?_, State.loadImage_of_not_loadable (s := { s with schedule := rest }) bytes,
    State.loadImage_of_too_long (s := { s with schedule := rest })⟩
  exact ⟨_, State.loadImage_of_fits (s := { s with schedule := rest }) h hlen, rfl,
    fun x => s.mem.read_load_zero bytes x.toNat⟩

/-- Settles O52: each action is one record update, performed with the rest of the schedule. -/
theorem inputPortsAndMemoryAreOpenToTheDriver : Obligations.InputPortsAndMemoryAreOpenToTheDriver :=
  fun _ _ => ⟨fun _ hs => step_of_schedule_cons hs, fun _ hs => step_of_schedule_cons hs, fun _ hs => step_of_schedule_cons hs⟩

end Sys2Proof.Machine
end

section
/-! PROOFS. The canonical form of Memory is canonical: a list of rising addresses without a 0x00 is told by its reads (log 11,
10_state.md R40). -/

namespace Sys2Proof.Machine

namespace Memory

theorem wfFrom_cons_iff {bound low k : Nat} {v : Byte} {m : Memory} :
    wfFrom bound low ((k, v) :: m) = true ↔ low ≤ k ∧ k < bound ∧ v ≠ 0 ∧ wfFrom bound (k + 1) m = true := by
  simp only [wfFrom, Bool.and_eq_true, decide_eq_true_eq, and_assoc]

theorem read_cons_self (k : Nat) (v : Byte) (m : Memory) : read ((k, v) :: m) k = v := by
  rw [read, if_pos rfl]

theorem read_cons_of_ne {k x : Nat} (h : k ≠ x) (v : Byte) (m : Memory) : read ((k, v) :: m) x = read m x := by
  rw [read, if_neg h]

/-- Below its first address a canonical list holds nothing. -/
theorem read_of_lt {bound low : Nat} {m : Memory} (h : wfFrom bound low m = true) {x : Nat} (hx : x < low) : read m x = 0 := by
  induction m generalizing low with
  | nil => rfl
  | cons cell m ih =>
    obtain ⟨k, v⟩ := cell
    obtain ⟨hlow, -, -, hm⟩ := wfFrom_cons_iff.1 h
    rw [read_cons_of_ne (by omega), ih hm (by omega)]

/-- A canonical list that reads as 0x00 at every address in range is empty, for its first entry would show. -/
theorem eq_nil_of_read_zero {bound low : Nat} {m : Memory} (h : wfFrom bound low m = true)
    (hread : ∀ x, x < bound → read m x = 0) : m = [] := by
  cases m with
  | nil => rfl
  | cons cell m =>
    obtain ⟨k, v⟩ := cell
    obtain ⟨-, hk, hv, -⟩ := wfFrom_cons_iff.1 h
    exact absurd ((read_cons_self k v m).symm.trans (hread k hk)) hv

/-- The first address of a canonical list reads non-zero, so a list that reads the same cannot begin later. -/
theorem first_le_of_read_eq {bound low k l : Nat} {v w : Byte} {m n : Memory} (hm : wfFrom bound low ((k, v) :: m) = true)
    (hn : wfFrom bound low ((l, w) :: n) = true)
    (hread : ∀ x, x < bound → read ((k, v) :: m) x = read ((l, w) :: n) x) : l ≤ k := by
  obtain ⟨-, hk, hv, -⟩ := wfFrom_cons_iff.1 hm
  obtain ⟨-, hl, hw, hrest⟩ := wfFrom_cons_iff.1 hn
  by_contra hlt
  have hzero : read ((l, w) :: n) k = 0 :=
    read_of_lt (wfFrom_cons_iff.2 ⟨le_rfl, hl, hw, hrest⟩) (by omega)
  exact hv ((read_cons_self k v m).symm.trans ((hread k hk).trans hzero))

/-- By induction on both lists: the first entries agree in address and byte, and the rests read the same, both 0x00 up to the
shared address. -/
theorem eq_of_read_eq {bound low : Nat} {m n : Memory} (hm : wfFrom bound low m = true) (hn : wfFrom bound low n = true)
    (hread : ∀ x, x < bound → read m x = read n x) : m = n := by
  induction m generalizing low n with
  | nil => exact (eq_nil_of_read_zero hn fun x hx => (hread x hx).symm).symm
  | cons cell m ih =>
    cases n with
    | nil => exact eq_nil_of_read_zero hm hread
    | cons cell' n =>
      obtain ⟨k, v⟩ := cell
      obtain ⟨l, w⟩ := cell'
      obtain rfl : k = l :=
        Nat.le_antisymm (first_le_of_read_eq hn hm fun x hx => (hread x hx).symm) (first_le_of_read_eq hm hn hread)
      obtain ⟨-, hk, -, hm'⟩ := wfFrom_cons_iff.1 hm
      obtain ⟨-, -, -, hn'⟩ := wfFrom_cons_iff.1 hn
      have hbyte : v = w := by simpa only [read_cons_self] using hread k hk
      have hrest : ∀ x, x < bound → read m x = read n x := by
        intro x hx
        by_cases hxk : k = x
        · rw [read_of_lt hm' (by omega), read_of_lt hn' (by omega)]
        · simpa only [read_cons_of_ne hxk] using hread x hx
      rw [hbyte, ih hm' hn' hrest]

end Memory

/-! ### The statement -/

/-- Settles O4: the addresses in range are those of the words. -/
theorem canonicalMemoriesThatReadTheSameAreEqual : Obligations.CanonicalMemoriesThatReadTheSameAreEqual := by
  intro m n hm hn hread
  refine Memory.eq_of_read_eq hm hn fun x hx => ?_
  have hword : (BitVec.ofNat 16 x).toNat = x := (BitVec.toNat_ofNat x 16).trans (Nat.mod_eq_of_lt hx)
  simpa only [hword] using hread (BitVec.ofNat 16 x)

end Sys2Proof.Machine
end

section
/-! PROOFS. The rest of arithmetic: ADD undone by SUB (45_arith.md R161 (f)), DAD (R160), DAA (R163), and INR and DCR
(44_incdec.md R140, R141). -/

namespace Sys2Proof.Machine

/-! ### ADD then SUB -/

/-- The operand other than A reads the same after a write of A and F: H, L and memory stay, so M does too. -/
theorem State.readReg_addResult_of_ne (s : State) {r : Reg8} (hr : r ≠ .a) (t : Int) :
    (s.addResult t).readReg r = s.readReg r := by
  cases r with
  | a => exact absurd rfl hr
  | _ => rfl

theorem low8_add_toNat (a v : Byte) : low8 (a.toNat + v.toNat) = a + v := by
  have hlow := toNat_low8 (a.toNat + v.toNat)
  bv_omega

/-! ### DAD -/

theorem State.toNat_addToHL_hl (s : State) (v : Word) : (s.addToHL v).hl.toNat = (s.hl.toNat + v.toNat) % 65536 := by
  have hhl : (s.addToHL v).hl = BitVec.ofNat 16 (s.hl.toNat + v.toNat) := word_hi8_lo8 _
  rw [hhl, BitVec.toNat_ofNat]

/-! ### DAA -/

namespace State

variable (s : State)

/-- The low correction is made. -/
def daaLow : Bool := decide (s.a.toNat % 16 > 9) || flagAC s.f

/-- A after the low correction, as an integer. -/
def daaOnce : Nat := if s.daaLow then s.a.toNat + 6 else s.a.toNat

/-- The high correction is made. -/
def daaHigh : Bool := decide (s.daaOnce / 16 > 9) || flagC s.f

/-- A after both corrections, as an integer. -/
def daaTotal : Nat := if s.daaHigh then s.daaOnce + 0x60 else s.daaOnce

/-- F after the low correction: AuxCarry is its nibble carry, and kept where it is not made. -/
def daaNibbleFlags : Byte := if s.daaLow then setBit s.f 2 (decide (s.a.toNat % 16 + 6 > 0x0F)) else s.f

theorem decimalAdjust_eq_corrections :
    s.decimalAdjust = { s with
      a := low8 s.daaTotal
      f := setBit (setZSP s.daaNibbleFlags s.daaTotal) 0 (decide (s.daaTotal > 255)) } := rfl

/-- The high nibble passes 9 from 0xA0 on. -/
theorem daaHigh_eq : s.daaHigh = (decide (s.daaOnce ≥ 0xA0) || flagC s.f) := by
  rw [daaHigh, decide_eq_decide.2 (by omega : s.daaOnce / 16 > 9 ↔ s.daaOnce ≥ 0xA0)]

theorem getLsbD_daaNibbleFlags {k : Nat} (hk : k ≠ 2) : s.daaNibbleFlags.getLsbD k = s.f.getLsbD k := by
  unfold daaNibbleFlags
  split
  · rw [getLsbD_setBit _ _ _ _ (by omega), if_neg hk]
  · rfl

theorem flagAC_daaNibbleFlags :
    flagAC s.daaNibbleFlags = if s.daaLow then decide (s.a.toNat % 16 ≥ 10) else flagAC s.f := by
  unfold daaNibbleFlags flagAC
  split
  · rw [getLsbD_setBit _ _ _ _ (by omega), if_pos rfl, decide_eq_decide]
    omega
  · rfl

end State

/-- A correction added where `c` holds, as the statement and as DAA write it. -/
theorem add_correction (c : Bool) (n k : Nat) : (n + if c then k else 0) = if c then n + k else n := by
  cases c <;> rfl

/-- A write of Carry alone replaces Carry and keeps what the other flags say. -/
theorem ResultFlags.setCarry {f g v : Byte} {cy ac : Bool} (h : ResultFlags f g v cy ac) (c : Bool) :
    ResultFlags f (setBit g 0 c) v c ac where
  zero := by rw [flagZ, getLsbD_setBit _ _ _ _ (by omega)]; exact h.zero
  sign := by rw [flagS, getLsbD_setBit _ _ _ _ (by omega)]; exact h.sign
  parity := by rw [flagP, getLsbD_setBit _ _ _ _ (by omega)]; exact h.parity
  carry := by rw [flagC, getLsbD_setBit _ _ _ _ (by omega), if_pos rfl]
  auxCarry := by rw [flagAC, getLsbD_setBit _ _ _ _ (by omega)]; exact h.auxCarry
  storage k hk := by rw [getLsbD_setBit _ _ _ _ (by omega), if_neg (by omega)]; exact h.storage k hk

/-- `ResultFlags` sees no more of the old flag byte than its storage bits. -/
theorem ResultFlags.of_storage_eq {f f' g v : Byte} {cy ac : Bool} (h : ResultFlags f' g v cy ac)
    (hf : ∀ k, k = 1 ∨ k = 3 ∨ k = 4 → f'.getLsbD k = f.getLsbD k) : ResultFlags f g v cy ac :=
  { h with storage := fun k hk => (h.storage k hk).trans (hf k hk) }

/-! ### INR and DCR -/

/-- The state with F set to `g`. -/
def State.withF (s : State) (g : Byte) : State := { s with f := g }

@[simp] theorem State.withF_f (s : State) (g : Byte) : (s.withF g).f = g := rfl

/-- No register operand reads F, M reads memory through H and L. -/
theorem State.readReg_withF (s : State) (g : Byte) (r : Reg8) : (s.withF g).readReg r = s.readReg r := by
  cases r <;> rfl

/-- `WritesOperand` speaks of a state up to F. -/
theorem WritesOperand.withF {s t : State} {r : Reg8} {v : Byte} (h : WritesOperand s t r v) (g : Byte) :
    WritesOperand s (t.withF g) r v where
  value := (t.readReg_withF g r).trans h.value
  others x hx hm := (t.readReg_withF g x).trans (h.others x hx hm)
  memory := h.memory
  rest := congrArg (State.withF · g) h.rest

/-- The next state of INR and of DCR, which differ in the integer they write and in the byte at which they wrap. -/
theorem State.writesOperand_and_flags_countByte (s : State) (r : Reg8) (t : Int) (wrap : Bool) :
    WritesOperand s (s.countByte r t wrap) r (low8 t) ∧
      ResultFlags s.f (s.countByte r t wrap).f (low8 t) wrap wrap :=
  ⟨(s.writesOperand_writeReg r (low8 t)).withF _, (resultFlags_setZSP s.f t).setCY wrap⟩

theorem low8_toNat_add_one (v : Byte) : low8 (v.toNat + 1) = v + 1 := low8_add_toNat v 1

theorem low8_toNat_sub_one (v : Byte) : low8 (v.toNat - 1) = v - 1 := low8_sub_toNat v 1

/-! ### The statements -/

/-- Settles O21: the difference is that of the bytes, and it borrows exactly where the sum has lost a carry. -/
theorem addThenSubtractRestoresA : Obligations.AddThenSubtractRestoresA := by
  intro r s hr
  refine ⟨_, _, exec_add r s, exec_sub r _, ?_⟩
  rw [State.readReg_addResult_of_ne s hr]
  have ha : (s.addResult (s.a.toNat + (s.readReg r).toNat)).a = s.a + s.readReg r := low8_add_toNat s.a (s.readReg r)
  rw [ha]
  refine ⟨?_, ?_⟩
  · calc low8 ((s.a + s.readReg r).toNat - (s.readReg r).toNat)
      _ = s.a + s.readReg r - s.readReg r := low8_sub_toNat _ _
      _ = s.a := BitVec.add_sub_cancel s.a (s.readReg r)
  · rw [State.subResult_eq, (resultFlags_updateFlagsSub_sub _ _ _).carry, decide_eq_true_iff]
    bv_omega

/-- Settles O22: DAD is `addToHL`. -/
theorem dadAddsIntoHL : Obligations.DadAddsIntoHL :=
  fun p s => ⟨_, exec_dad p s, rfl, s.toNat_addToHL_hl _, getLsbD_setCY s.f _⟩

/-- Settles O23: the flags are those that the total makes after the low correction, with Carry written last. -/
theorem daaAdjustsA : Obligations.DaaAdjustsA := by
  intro s low once total
  have honce : once = s.daaOnce := add_correction low s.a.toNat 6
  have htotal : total = s.daaTotal := by
    rw [State.daaTotal, State.daaHigh_eq, ← honce]
    exact add_correction _ once 0x60
  rw [htotal]
  have hflags : ResultFlags s.f s.decimalAdjust.f s.decimalAdjust.a (decide (s.daaTotal > 255)) (flagAC s.daaNibbleFlags) := by
    rw [s.decimalAdjust_eq_corrections]
    exact ((resultFlags_setZSP s.daaNibbleFlags s.daaTotal).setCarry _).of_storage_eq
      fun k hk => s.getLsbD_daaNibbleFlags (by omega)
  rw [s.flagAC_daaNibbleFlags] at hflags
  refine ⟨_, exec_daa s, s.decimalAdjust_eq, ?_, hflags⟩
  rw [s.decimalAdjust_eq_corrections]
  exact toNat_low8_natCast s.daaTotal

/-- Settles O26: both are `countByte`, with the operand plus and minus 1. -/
theorem incrementAndDecrementAByte : Obligations.IncrementAndDecrementAByte := by
  intro r s
  have hinr := s.writesOperand_and_flags_countByte r ((s.readReg r).toNat + 1) (decide (s.readReg r = 0xFF))
  have hdcr := s.writesOperand_and_flags_countByte r ((s.readReg r).toNat - 1) (decide (s.readReg r = 0x00))
  rw [low8_toNat_add_one] at hinr
  rw [low8_toNat_sub_one] at hdcr
  exact ⟨⟨_, exec_inr r s, hinr⟩, ⟨_, exec_dcr r s, hdcr⟩⟩

end Sys2Proof.Machine
end

section
/-! PROOFS. The four rotates turn a ring of bits by one place: RLC and RRC the 8 bits of A, RAL and RAR these and Carry
(43_rotate.md R130 to R133). -/

namespace Sys2Proof.Machine

namespace State

/-! ### One place -/

theorem getLsbD_rotateLeft_a (s : State) (bitIn : Bool) {k : Nat} (hk : k < 8) :
    (s.rotateLeft bitIn).a.getLsbD k = if k = 0 then bitIn else s.a.getLsbD (k - 1) := by
  rw [rotateLeft_eq, BitVec.getLsbD_append]
  by_cases h0 : k = 0
  · rw [if_pos (by omega), if_pos h0, h0]
    exact BitVec.getLsbD_ofBool ..
  · rw [if_neg (by omega), if_neg h0, BitVec.getLsbD_extractLsb', decide_eq_true (by omega), Bool.true_and, Nat.zero_add]

theorem getLsbD_rotateRight_a (s : State) (bitIn : Bool) {k : Nat} (hk : k < 8) :
    (s.rotateRight bitIn).a.getLsbD k = if k = 7 then bitIn else s.a.getLsbD (k + 1) := by
  rw [rotateRight_eq, BitVec.getLsbD_append]
  by_cases h7 : k = 7
  · rw [if_neg (by omega), if_pos h7, h7]
    exact BitVec.getLsbD_ofBool ..
  · rw [if_pos (by omega), if_neg h7, BitVec.getLsbD_extractLsb', decide_eq_true (by omega), Bool.true_and, Nat.add_comm]

theorem flagC_rotateLeft (s : State) (bitIn : Bool) : flagC (s.rotateLeft bitIn).f = s.a.getLsbD 7 := flagC_setCY s.f _

theorem flagC_rotateRight (s : State) (bitIn : Bool) : flagC (s.rotateRight bitIn).f = s.a.getLsbD 0 := flagC_setCY s.f _

/-! ### The two rings -/

/-- The next state of RLC. -/
def rlc (s : State) : State := s.rotateLeft (s.a.getLsbD 7)

/-- The next state of RRC. -/
def rrc (s : State) : State := s.rotateRight (s.a.getLsbD 0)

/-- The next state of RAL. -/
def ral (s : State) : State := s.rotateLeft (flagC s.f)

/-- The next state of RAR. -/
def rar (s : State) : State := s.rotateRight (flagC s.f)

/-- The ring of RLC and RRC: the bits of A. -/
def ring8 (s : State) (k : Nat) : Bool := s.a.getLsbD k

/-- The ring of RAL and RAR: the bits of A, with Carry in place 8. -/
def ring9 (s : State) (k : Nat) : Bool := if k = 8 then flagC s.f else s.a.getLsbD k

theorem ring8_rlc (s : State) {k : Nat} (hk : k < 8) : s.rlc.ring8 k = s.ring8 ((k + 7) % 8) := by
  refine (s.getLsbD_rotateLeft_a _ hk).trans ?_
  by_cases h0 : k = 0
  · rw [if_pos h0, h0]
    rfl
  · rw [if_neg h0, show (k + 7) % 8 = k - 1 by omega]
    rfl

theorem ring8_rrc (s : State) {k : Nat} (hk : k < 8) : s.rrc.ring8 k = s.ring8 ((k + 1) % 8) := by
  refine (s.getLsbD_rotateRight_a _ hk).trans ?_
  by_cases h7 : k = 7
  · rw [if_pos h7, h7]
    rfl
  · rw [if_neg h7, show (k + 1) % 8 = k + 1 by omega]
    rfl

theorem ring9_ral (s : State) {k : Nat} (hk : k < 9) : s.ral.ring9 k = s.ring9 ((k + 8) % 9) := by
  by_cases h8 : k = 8
  · rw [h8]
    exact s.flagC_rotateLeft _
  · rw [ring9, if_neg h8, ral, s.getLsbD_rotateLeft_a _ (by omega)]
    by_cases h0 : k = 0
    · rw [if_pos h0, h0]
      rfl
    · rw [if_neg h0, show (k + 8) % 9 = k - 1 by omega, ring9, if_neg (by omega)]

theorem ring9_rar (s : State) {k : Nat} (hk : k < 9) : s.rar.ring9 k = s.ring9 ((k + 1) % 9) := by
  by_cases h8 : k = 8
  · rw [h8]
    exact s.flagC_rotateRight _
  · rw [ring9, if_neg h8, rar, s.getLsbD_rotateRight_a _ (by omega)]
    by_cases h7 : k = 7
    · rw [if_pos h7, h7]
      rfl
    · rw [if_neg h7, show (k + 1) % 9 = k + 1 by omega, ring9, if_neg (by omega)]

/-! ### All the way round -/

/-- Turning a ring by `d` places `n` times turns it by `n * d` places. -/
theorem ring_iterate {ring : State → Nat → Bool} {turn : State → State} {size d : Nat}
    (hturn : ∀ s k, k < size → ring (turn s) k = ring s ((k + d) % size)) (n : Nat) (s : State) {k : Nat} (hk : k < size) :
    ring (turn^[n] s) k = ring s ((k + n * d) % size) := by
  induction n generalizing k with
  | zero => rw [Nat.zero_mul, Nat.add_zero, Nat.mod_eq_of_lt hk, Function.iterate_zero_apply]
  | succ n ih =>
    rw [Function.iterate_succ_apply', hturn _ k hk, ih (Nat.mod_lt _ (by omega)), Nat.mod_add_mod, Nat.add_assoc,
      Nat.succ_mul, Nat.add_comm d]

theorem ring_iterate_size {ring : State → Nat → Bool} {turn : State → State} {size d : Nat}
    (hturn : ∀ s k, k < size → ring (turn s) k = ring s ((k + d) % size)) (s : State) {k : Nat} (hk : k < size) :
    ring (turn^[size] s) k = ring s k := by
  rw [ring_iterate hturn size s hk, Nat.add_mul_mod_self_left, Nat.mod_eq_of_lt hk]

theorem a_eq_of_ring8 {s t : State} (h : ∀ k, k < 8 → t.ring8 k = s.ring8 k) : t.a = s.a :=
  BitVec.eq_of_getLsbD_eq h

theorem a_and_flagC_eq_of_ring9 {s t : State} (h : ∀ k, k < 9 → t.ring9 k = s.ring9 k) :
    t.a = s.a ∧ flagC t.f = flagC s.f := by
  refine ⟨BitVec.eq_of_getLsbD_eq fun k hk => ?_, h 8 (by omega)⟩
  have hbit := h k (by omega)
  rwa [ring9, ring9, if_neg (by omega), if_neg (by omega)] at hbit

end State

/-- The chain of states that an instruction with next state `turn` runs through. -/
theorem exists_path_of_exec {i : Instr} {turn : State → State} (hexec : ∀ s, exec i s = .next (turn s)) (n : Nat) (s : State) :
    ∃ path : Nat → State, path 0 = s ∧ path n = turn^[n] s ∧ ∀ k, k < n → exec i (path k) = .next (path (k + 1)) :=
  ⟨fun k => turn^[k] s, rfl, rfl, fun k _ => (hexec _).trans (congrArg _ (Function.iterate_succ_apply' turn k s).symm)⟩

/-! ### The statements -/

/-- Settles O24: A as the bits of the ring that the rotate turns; Carry, and AuxCarry with it, by `SetCY`. -/
theorem rotatesMoveAByOnePlace : Obligations.RotatesMoveAByOnePlace :=
  fun s => ⟨⟨_, exec_rlc s, rfl, fun _ hk => s.ring8_rlc hk, getLsbD_setCY s.f _⟩,
    ⟨_, exec_rrc s, rfl, fun _ hk => s.ring8_rrc hk, getLsbD_setCY s.f _⟩,
    ⟨_, exec_ral s, rfl, fun _ hk => s.getLsbD_rotateLeft_a _ hk, getLsbD_setCY s.f _⟩,
    ⟨_, exec_rar s, rfl, fun _ hk => s.getLsbD_rotateRight_a _ hk, getLsbD_setCY s.f _⟩⟩

/-- Settles O25: as many turns as the ring has places bring it back. -/
theorem repeatedRotatesRestoreA : Obligations.RepeatedRotatesRestoreA :=
  fun s => ⟨⟨_, exists_path_of_exec exec_rlc 8 s,
      State.a_eq_of_ring8 fun _ hk => State.ring_iterate_size (fun _ _ => State.ring8_rlc _) s hk⟩,
    ⟨_, exists_path_of_exec exec_rrc 8 s,
      State.a_eq_of_ring8 fun _ hk => State.ring_iterate_size (fun _ _ => State.ring8_rrc _) s hk⟩,
    ⟨_, exists_path_of_exec exec_ral 9 s,
      State.a_and_flagC_eq_of_ring9 fun _ hk => State.ring_iterate_size (fun _ _ => State.ring9_ral _) s hk⟩,
    ⟨_, exists_path_of_exec exec_rar 9 s,
      State.a_and_flagC_eq_of_ring9 fun _ hk => State.ring_iterate_size (fun _ _ => State.ring9_rar _) s hk⟩⟩

end Sys2Proof.Machine
end

section
/-! PROOFS. More of the stack (20_memory.md section 6): the two policies' slots, a word that comes back, the window that no push
leaves, and XTHL (49_misc_io.md R206). -/

namespace Sys2Proof.Machine

namespace State

/-! ### Any number of pushes -/

/-- The window is pinned with its top at `v`, and SP is inside (20_memory.md R60, R65). -/
structure PinnedAt (s : State) (v : Word) : Prop where
  window : s.WindowOk
  pinned : s.wpin = true
  top : s.wmax = v

/-- Under the windowed policy `SetPointer` pins, whatever window stood before. -/
theorem pinnedAt_setPointer {s : State} (h : s.config.stackPolicy = .windowed) (v : Word) : (s.setPointer v).PinnedAt v := by
  rw [setPointer_of_windowed h]
  refine ⟨⟨fun hu => ?_, fun _ => rfl, fun _ => ?_⟩, rfl, rfl⟩
  · exact StackPolicy.noConfusion (hu.symm.trans h)
  · simp

theorem PinnedAt.pushWord {s : State} {v : Word} (h : s.PinnedAt v) (w : Word) : (s.pushWord w).PinnedAt v :=
  ⟨h.window.pushWord w, h.pinned, h.top⟩

theorem PinnedAt.sp_inside {s : State} {v : Word} (h : s.PinnedAt v) : (v - s.sp).toNat ≤ 255 :=
  h.top ▸ h.window.inside h.pinned

/-- Both bytes of a `PushWord` go into the window, for SP stays in it from push to push. -/
theorem PinnedAt.memRead_pushWord {s : State} {v : Word} (h : s.PinnedAt v) (w : Word) {x : Word} (hx : (v - x).toNat > 255) :
    (s.pushWord w).memRead x = s.memRead x := by
  have hhigh : (v - s.pushSlot).toNat ≤ 255 := h.top ▸ h.window.pushSlot.inside h.pinned
  have hlow : (v - (s.pushWord w).sp).toNat ≤ 255 := (h.pushWord w).sp_inside
  rw [State.memRead_pushWord, if_neg, if_neg]
  · rintro rfl
    omega
  · rintro rfl
    omega

/-- By induction on the words pushed. -/
theorem PinnedAt.foldl_pushWord {s : State} {v : Word} (h : s.PinnedAt v) (ws : List Word) :
    (ws.foldl State.pushWord s).PinnedAt v ∧
      ∀ x, (v - x).toNat > 255 → (ws.foldl State.pushWord s).memRead x = s.memRead x := by
  induction ws generalizing s with
  | nil => exact ⟨h, fun _ _ => rfl⟩
  | cons w ws ih =>
    obtain ⟨hpinned, hmem⟩ := ih (h.pushWord w)
    exact ⟨hpinned, fun x hx => (hmem x hx).trans (h.memRead_pushWord w hx)⟩

/-! ### A word popped and another pushed -/

/-- A push after a pop takes the two addresses that the pop read, the higher one first (decision D15). -/
theorem pushSlots_popWord {s : State} (h : s.WindowOk) (w : Word) :
    s.popWord.2.pushSlot = s.popSlot ∧ (s.popWord.2.pushWord w).sp = s.sp := by
  have hhigh : s.popWord.2.pushSlot = s.popSlot := pushSlot_after_popSlot h.popSlot
  refine ⟨hhigh, ?_⟩
  calc (s.popWord.2.pushWord w).sp
      _ = ({ s with sp := s.popWord.2.pushSlot } : State).pushSlot := rfl
      _ = ({ s with sp := s.popSlot } : State).pushSlot := by rw [hhigh]
      _ = s.sp := pushSlot_after_popSlot h

theorem pushWord_rest (s : State) (w : Word) : s.pushWord w = { s with sp := (s.pushWord w).sp, mem := (s.pushWord w).mem } :=
  rfl

/-- A pop moves SP and a push moves SP and stores, so together they reach SP and memory alone. -/
theorem popWord_pushWord_rest (s : State) (w : Word) :
    s.popWord.2.pushWord w = { s with sp := (s.popWord.2.pushWord w).sp, mem := (s.popWord.2.pushWord w).mem } :=
  s.popWord.2.pushWord_rest w

theorem setHL_rest_of_sp_eq {s t : State} (ht : t = { s with sp := t.sp, mem := t.mem }) (hsp : t.sp = s.sp) (v : Word) :
    t.setHL v = { s with h := hi8 v, l := lo8 v, mem := t.mem } := by
  rw [hsp] at ht
  exact congrArg (setHL · v) ht

@[simp] theorem lo8_hl (s : State) : lo8 s.hl = s.l := lo8_word s.h s.l
@[simp] theorem hi8_hl (s : State) : hi8 s.hl = s.h := hi8_word s.h s.l

end State

/-! ### The statements -/

/-- Settles O28: no window is pinned, or one is and the two ends are WMIN and WMAX. -/
theorem stackSlotsFollowThePolicy : Obligations.StackSlotsFollowThePolicy :=
  fun _ => ⟨fun h => h.elim State.slots_of_unbounded State.slots_of_not_pinned, State.slots_of_pinned⟩

/-- Settles O32: the word popped is the word pushed, and the second operand takes it. -/
theorem pushThenPopGivesTheValueBack : Obligations.PushThenPopGivesTheValueBack := by
  intro q q' s h
  obtain ⟨hword, hsp⟩ := State.popWord_pushWord h (s.readStackPair q)
  exact ⟨_, _, exec_push q s, exec_pop q' _, (State.readStackPair_writeStackPair_same _ q' _).trans hword,
    (State.writeStackPair_sp _ q' _).trans hsp⟩

/-- Settles O36: every push keeps the pinned window, SP in it and every byte outside it. -/
theorem windowedPushesNeverLeaveTheWindow : Obligations.WindowedPushesNeverLeaveTheWindow := by
  intro s v ws hpolicy
  obtain ⟨hpinned, hmem⟩ := (State.pinnedAt_setPointer hpolicy v).foldl_pushWord ws
  exact ⟨hpinned.sp_inside, fun x hx => (hmem x hx).trans (State.memRead_congr (s.setPointer_mem v) x)⟩

/-- Settles O46: the push of HL lands on the two bytes that the pop read, and SP comes back. -/
theorem xthlSwapsHLAndTheTopOfTheStack : Obligations.XthlSwapsHLAndTheTopOfTheStack := by
  intro s h
  obtain ⟨hslot, hsp⟩ := State.pushSlots_popWord h s.hl
  have hpush := State.pushesWord_pushWord h.popWord s.hl
  have hhigh := hpush.high
  have hlow := hpush.low
  have hmem := hpush.memory
  rw [hslot, State.hi8_hl] at hhigh
  rw [hsp, State.lo8_hl] at hlow
  rw [hslot, hsp] at hmem
  refine ⟨_, exec_xthl s, State.setHL_hl _ _, hlow, hhigh, fun x hlo hhi => hmem x hhi hlo, ?_⟩
  exact State.setHL_rest_of_sp_eq (s.popWord_pushWord_rest s.hl) hsp s.topWord

end Sys2Proof.Machine
end

section
/-! PROOFS. The conditional transfers (47_branch.md R180 to R184): each is the unconditional one where its bit of F has the value
that the condition asks for, and nothing where it has not. -/

namespace Sys2Proof.Machine

namespace State

/-- The bit that a condition reads, as a bit of F and as a flag (47_branch.md R180). -/
theorem condHolds_iff (cond : Cond) (f : Byte) : condHolds f cond = true ↔ CondTrue cond f := by
  cases cond <;> simp [CondTrue, condTest, condHolds, flagZ, flagC, flagP, flagS]

theorem jumpIf_of_condTrue {s : State} {cond : Cond} (h : CondTrue cond s.f) (x : Word) : s.jumpIf cond x = s.jump x := by
  rw [jumpIf_eq, if_pos ((condHolds_iff cond s.f).2 h)]

theorem jumpIf_of_not_condTrue {s : State} {cond : Cond} (h : ¬CondTrue cond s.f) (x : Word) : s.jumpIf cond x = s := by
  rw [jumpIf_eq, if_neg fun hc => h ((condHolds_iff cond s.f).1 hc)]

theorem callIf_of_condTrue {s : State} {cond : Cond} (h : CondTrue cond s.f) (x : Word) : s.callIf cond x = s.callTo x := by
  rw [callIf_eq, if_pos ((condHolds_iff cond s.f).2 h)]

theorem callIf_of_not_condTrue {s : State} {cond : Cond} (h : ¬CondTrue cond s.f) (x : Word) : s.callIf cond x = s := by
  rw [callIf_eq, if_neg fun hc => h ((condHolds_iff cond s.f).1 hc)]

theorem returnIf_of_condTrue {s : State} {cond : Cond} (h : CondTrue cond s.f) : s.returnIf cond = s.returnPC := by
  rw [returnIf_eq, if_pos ((condHolds_iff cond s.f).2 h)]

theorem returnIf_of_not_condTrue {s : State} {cond : Cond} (h : ¬CondTrue cond s.f) : s.returnIf cond = s := by
  rw [returnIf_eq, if_neg fun hc => h ((condHolds_iff cond s.f).1 hc)]

/-- A conditional jump writes pc at most. -/
theorem jumpIf_rest (s : State) (cond : Cond) (x : Word) : s.jumpIf cond x = { s with pc := (s.jumpIf cond x).pc } := by
  rw [jumpIf_eq]
  split <;> rfl

end State

theorem exec_jcc (cond : Cond) (addr : Word) (s : State) : exec (jcc cond addr) s = .next (s.jumpIf cond addr) := by
  cases cond <;> rfl

theorem exec_ccc (cond : Cond) (addr : Word) (s : State) : exec (ccc cond addr) s = .next (s.callIf cond addr) := by
  cases cond <;> rfl

theorem exec_rcc (cond : Cond) (s : State) : exec (rcc cond) s = .next (s.returnIf cond) := by
  cases cond <;> rfl

/-! ### The statements -/

/-- Settles O38: a conditional jump is a jump or nothing, by its condition. -/
theorem conditionalJumpFollowsItsFlag : Obligations.ConditionalJumpFollowsItsFlag :=
  fun cond addr s => ⟨_, exec_jcc cond addr s, s.jumpIf_rest cond addr,
    fun h => by rw [State.jumpIf_of_condTrue h, State.jump_pc], fun h => by rw [State.jumpIf_of_not_condTrue h]⟩

/-- Settles O39: a conditional call is a call or nothing, by its condition. -/
theorem conditionalCallFollowsItsFlag : Obligations.ConditionalCallFollowsItsFlag := by
  intro cond addr s hw
  refine ⟨_, exec_ccc cond addr s, fun h => ?_, fun h => State.callIf_of_not_condTrue h addr⟩
  rw [State.callIf_of_condTrue h]
  exact ⟨State.pushesWord_callTo hw addr, s.callTo_pc addr, s.callTo_ie addr⟩

/-- Settles O40: a conditional return is a return or nothing, by its condition. -/
theorem conditionalReturnFollowsItsFlag : Obligations.ConditionalReturnFollowsItsFlag :=
  fun cond s => ⟨_, exec_rcc cond s, fun h => (State.returnIf_of_condTrue h).trans s.returnPC_eq,
    State.returnIf_of_not_condTrue⟩

end Sys2Proof.Machine
end

section
/-! PROOFS. The lengths and some words of the opcode map (30_encoding.md R80, R84), reset (70_reset_and_hazards.md R261), and
`Step` at the end of memory (40_dispatch.md R101). -/

namespace Sys2Proof

/-! ### The length of an instruction (30_encoding.md R80) -/

/-- What the decoder leaves of two bytes after the opcode, by the lengths that the opcode map gives (R80, R83). -/
theorem drop_instrLength_eq {α : Type} (op : Byte) (b1 b2 : α) (rest : List α) :
    (b1 :: b2 :: rest).drop (instrLength op - 1) =
      if instrLength op = 2 then b2 :: rest else if instrLength op = 3 then rest else b1 :: b2 :: rest := by
  unfold instrLength
  cases formOf op <;> rfl

theorem instrLength_eq_two_iff (op : Byte) : instrLength op = 2 ↔
    op ∈ ([0x06, 0x0E, 0x16, 0x1E, 0x26, 0x2E, 0x36, 0x3E, 0xC6, 0xCE, 0xD3, 0xD6, 0xDB, 0xDE, 0xE6, 0xEE, 0xF6,
      0xFE] : List Byte) := by
  revert op
  decide

theorem instrLength_eq_three_iff (op : Byte) : instrLength op = 3 ↔
    op ∈ ([0x01, 0x11, 0x21, 0x22, 0x2A, 0x31, 0x32, 0x3A, 0xC2, 0xC3, 0xC4, 0xCA, 0xCC, 0xCD, 0xD2, 0xD4, 0xDA,
      0xDC, 0xE2, 0xE4, 0xEA, 0xEC, 0xF2, 0xF4, 0xFA, 0xFC] : List Byte) := by
  revert op
  decide

/-- Settles O8: the decoder consumes the length that the opcode map gives, and the two lists are the opcodes of lengths 2 and 3. -/
theorem firstByteGivesTheLength : Obligations.FirstByteGivesTheLength := by
  intro op b1 b2 rest
  refine ⟨decodeBytes op b1 b2, ?_⟩
  simp only [← instrLength_eq_two_iff, ← instrLength_eq_three_iff, decode_cons3, drop_instrLength_eq]

/-- Settles O9: the entry of the opcode map at each of the eight opcodes. -/
theorem wordsWrittenOutDecode : Obligations.WordsWrittenOutDecode :=
  ⟨rfl, rfl, rfl, rfl, rfl, rfl, rfl, rfl⟩

namespace Machine

namespace State

/-! ### The end of memory (40_dispatch.md R101) -/

/-- From pc = 0xFFFF on the guard gives 0x00, which is NOP, and pc stays. -/
theorem fetchInstr_of_pc_top {s : State} (h : s.pc = 0xFFFF) : s.fetchInstr = (.nop, s) := by
  have hfetch : s.fetch8 = (0, s) := by rw [fetch8, if_pos h]
  have hnop : formOf 0 = .f1 .nop := rfl
  rw [fetchInstr, opcode, hfetch, hnop, fetchOperands]

theorem streamByte_zero_of_pc_top {s : State} (h : s.pc = 0xFFFF) : s.streamByte 0 = 0 := by
  rw [streamByte, h]
  rfl

end State

/-- Memory after reset is the empty list. -/
theorem State.memRead_resetWith (config : Config) (x : Word) : (State.resetWith config).memRead x = 0 := rfl

/-! ### The statements -/

/-- Settles O1: `State.reset` is `State.resetWith` of the default parameters, and these stand in none of the fields named. -/
theorem resetStateIsAllZero : Obligations.ResetStateIsAllZero := by
  intro config s h
  obtain ⟨c, rfl⟩ : ∃ c, s = State.resetWith c := h.elim (⟨config, ·⟩) (⟨Config.default, ·⟩)
  exact ⟨rfl, rfl, rfl, rfl, rfl, rfl, rfl, rfl, rfl, rfl, rfl, rfl, rfl, rfl, rfl, rfl, rfl, rfl, State.memRead_resetWith c⟩

/-- Settles O11: the fetch gives NOP, and 0x00 is no unrecognised opcode, so its cost is that of CYCLES. -/
theorem stepAtTheTopOfMemoryIsNop : Obligations.StepAtTheTopOfMemoryIsNop := by
  intro s rest hs hpc
  have hfetch : ({ s with schedule := rest } : State).fetchInstr = (.nop, { s with schedule := rest }) :=
    State.fetchInstr_of_pc_top hpc
  rw [step_of_exec hs hfetch (exec_nop _), State.streamByte_zero_of_pc_top hpc, State.finishStep, State.stepCost_eq,
    if_neg (by decide)]
  rfl

end Machine

end Sys2Proof
end

section
/-! PROOFS. Loads and stores (48_memmove.md R190 to R195), and CMA, STC, CMC, DI and EI (49_misc_io.md R200 to R202, R207,
R208). -/

namespace Sys2Proof.Machine

/-! ### Stores -/

/-- STA and STAX store one byte and nothing else. -/
theorem exists_next_of_exec_eq_memWrite {i : Instr} {s : State} {x : Word} {v : Byte}
    (hexec : exec i s = .next (s.memWrite x v)) :
    ∃ t, exec i s = .next t ∧ t = { s with mem := t.mem } ∧ (∀ cell ∈ [(x, v)], t.memRead cell.1 = cell.2) ∧
      ∀ y, (∀ cell ∈ [(x, v)], y ≠ cell.1) → t.memRead y = s.memRead y := by
  refine ⟨_, hexec, rfl, List.forall_mem_singleton.2 ?_, fun y hy => ?_⟩
  · rw [State.memRead_memWrite, if_pos rfl]
  · rw [State.memRead_memWrite, if_neg (hy _ (List.mem_singleton_self _))]

/-! ### The statements -/

/-- Settles O41: each load is one record update; the word at an address is its two bytes. -/
theorem loadsReadMemory : Obligations.LoadsReadMemory := by
  intro s
  refine ⟨fun addr => ⟨_, exec_lda addr s, rfl, rfl⟩, fun p => ?_,
    fun addr => ⟨_, exec_lhld addr s, lo8_word _ _, hi8_word _ _, rfl⟩⟩
  cases p <;> exact ⟨_, exec_ldax _ s, rfl, rfl⟩

/-- Settles O42: STA and STAX store A in one cell, SHLD stores the bytes of HL by the law of a word access. -/
theorem storesWriteMemory : Obligations.StoresWriteMemory := by
  intro s
  refine ⟨fun addr => exists_next_of_exec_eq_memWrite (exec_sta addr s), exists_next_of_exec_eq_memWrite (exec_stax .bc s),
    exists_next_of_exec_eq_memWrite (exec_stax .de s), fun addr => ?_⟩
  obtain ⟨-, -, hword⟩ := memoryAccessIsByteWise s addr
  obtain ⟨hlow, hhigh, hothers⟩ := hword s.hl
  rw [State.lo8_hl] at hlow
  rw [State.hi8_hl] at hhigh
  exact ⟨_, exec_shld addr s, rfl, List.forall_mem_cons.2 ⟨hlow, List.forall_mem_singleton.2 hhigh⟩,
    fun x hx => hothers x (hx _ List.mem_cons_self) (hx _ (List.mem_cons_of_mem _ List.mem_cons_self))⟩

/-- Settles O44: CMA is the bitwise complement, STC and CMC are `SetCY`, DI and EI write IE. -/
theorem complementCarryAndInterruptEnable : Obligations.ComplementCarryAndInterruptEnable := by
  intro s
  have hcma : (s.a ^^^ 0xFF).toNat = 255 - s.a.toNat := by
    rw [show (0xFF : Byte) = BitVec.allOnes 8 from rfl, BitVec.xor_allOnes, BitVec.toNat_not]
  exact ⟨⟨_, exec_cma s, hcma, rfl⟩, ⟨_, exec_stc s, getLsbD_setCY s.f true, rfl⟩,
    ⟨_, exec_cmc s, getLsbD_setCY s.f _, rfl⟩, ⟨_, exec_di s, rfl, rfl⟩, ⟨_, exec_ei s, rfl, rfl⟩⟩

end Sys2Proof.Machine
end

section
/-! PROOFS. Registers and memory over all instructions: an instruction writes its destinations and stores to its addresses, and
nothing else (41_move.md to 49_misc_io.md; 20_memory.md R56). -/

namespace Sys2Proof.Machine

namespace State

/-! ### Registers -/

/-- A general register is one field. -/
theorem readReg_eq_of_registers {s t : State} {r : Reg8} (hm : r ≠ .m)
    (h : t.a = s.a ∧ t.b = s.b ∧ t.c = s.c ∧ t.d = s.d ∧ t.e = s.e ∧ t.h = s.h ∧ t.l = s.l) :
    t.readReg r = s.readReg r := by
  obtain ⟨ha, hb, hc, hd, he, hh, hl⟩ := h
  cases r with
  | m => exact absurd rfl hm
  | a | b | c | d | e | h | l => assumption

/-- A pair is written as its two registers (10_state.md R22). -/
theorem readReg_writeReg_writeReg_of_not_mem (s : State) {x y r : Reg8} (hr : r ∉ [x, y]) (hm : r ≠ .m) (v w : Byte) :
    ((s.writeReg x v).writeReg y w).readReg r = s.readReg r := by
  have hx : r ≠ x := List.ne_of_not_mem_cons hr
  have hy : r ≠ y := List.ne_of_not_mem_cons (List.not_mem_of_not_mem_cons hr)
  rw [readReg_writeReg_of_ne _ hy hm, readReg_writeReg_of_ne _ hx hm]

theorem readReg_writePair_of_not_mem (s : State) {p : Pair} {r : Reg8} (hr : r ∉ pairRegs p) (hm : r ≠ .m) (v : Word) :
    (s.writePair p v).readReg r = s.readReg r := by
  cases p with
  | sp => exact readReg_eq_of_registers hm (by simp [writePair])
  | bc | de | hl => exact s.readReg_writeReg_writeReg_of_not_mem hr hm (hi8 v) (lo8 v)

theorem readReg_writeStackPair_of_not_mem (s : State) {q : StackPair} {r : Reg8} (hr : r ∉ stackPairRegs q) (hm : r ≠ .m)
    (v : Word) : (s.writeStackPair q v).readReg r = s.readReg r := by
  cases q with
  | psw =>
    calc ((s.writeReg .a (hi8 v)).withF (lo8 v)).readReg r
      _ = (s.writeReg .a (hi8 v)).readReg r := readReg_withF _ _ r
      _ = s.readReg r := s.readReg_writeReg_of_ne (List.ne_of_not_mem_cons hr) hm _
  | bc | de | hl => exact s.readReg_writeReg_writeReg_of_not_mem hr hm (hi8 v) (lo8 v)

theorem readReg_forceCarry (s : State) (c : Bool) {r : Reg8} (hm : r ≠ .m) : (s.forceCarry c).readReg r = s.readReg r :=
  readReg_eq_of_registers hm (by simp)

/-- A write of A and F, as the arithmetic, the logic and the rotates make it. -/
theorem readReg_writeReg_withF_of_not_mem (s : State) {x r : Reg8} (hr : r ∉ [x]) (hm : r ≠ .m) (v g : Byte) :
    ((s.writeReg x v).withF g).readReg r = s.readReg r :=
  (readReg_withF _ g r).trans (s.readReg_writeReg_of_ne (List.ne_of_not_mem_cons hr) hm v)

/-! ### Memory -/

theorem memRead_writeReg_of_not_mem (s : State) {r : Reg8} {x : Word} (hx : x ∉ if r = .m then [s.hl] else []) (v : Byte) :
    (s.writeReg r v).memRead x = s.memRead x := by
  refine s.memRead_writeReg_of_not_cell (fun ⟨hr, hcell⟩ => hx ?_) v
  rw [if_pos hr, hcell]
  exact List.mem_singleton_self _

theorem memRead_memWrite_of_ne (s : State) {x y : Word} (h : y ≠ x) (v : Byte) : (s.memWrite x v).memRead y = s.memRead y := by
  rw [memRead_memWrite, if_neg h]

theorem memRead_pushWord_of_not_mem (s : State) {x : Word} (hx : x ∉ s.pushSlots) (w : Word) :
    (s.pushWord w).memRead x = s.memRead x := by
  have hhigh : x ≠ s.pushSlot := List.ne_of_not_mem_cons hx
  have hlow : x ≠ (s.pushWord w).sp := List.ne_of_not_mem_cons (List.not_mem_of_not_mem_cons hx)
  rw [memRead_pushWord, if_neg hlow, if_neg hhigh]

theorem memRead_callIf_of_not_mem (s : State) {cond : Cond} {x : Word} (hx : x ∉ if condHolds s.f cond then s.pushSlots else [])
    (addr : Word) : (s.callIf cond addr).memRead x = s.memRead x := by
  rw [callIf_eq]
  split
  · rename_i hcond
    rw [if_pos hcond] at hx
    exact s.memRead_pushWord_of_not_mem hx s.pc
  · rfl

end State

/-! ### What every instruction leaves -/

section
variable {i : Instr} {s t : State} (h : exec i s = .next t)
include h

/-- By cases on the instruction, grouped by what is written: an operand, a pair, A with F, or no general register. -/
theorem exec_readReg {r : Reg8} (hm : r ≠ .m) (hr : r ∉ regDests i) : t.readReg r = s.readReg r := by
  cases i with
  | mov _ _ | mvi _ _ => cases h; exact s.readReg_writeReg_of_ne (List.ne_of_not_mem_cons hr) hm _
  | inr _ | dcr _ => cases h; exact s.readReg_writeReg_withF_of_not_mem hr hm _ _
  | ana _ | ani _ | xra _ | xri _ | ora _ | ori _ | add _ | adi _ | adc _ | aci _ | sub _ | sui _ | sbb _ | sbi _ | daa | rlc
  | rrc | ral | rar => cases h; exact s.readReg_writeReg_withF_of_not_mem hr hm _ _
  | cma | lda _ | ldax _ | inPort _ => cases h; exact s.readReg_writeReg_of_ne (List.ne_of_not_mem_cons hr) hm _
  | lxi p _ => cases h; exact s.readReg_writePair_of_not_mem hr hm _
  | inx p | dcx p =>
    cases h
    exact (State.readReg_forceCarry _ _ hm).trans (s.readReg_writePair_of_not_mem hr hm _)
  | dad _ => cases h; exact (State.readReg_withF _ _ r).trans (s.readReg_writePair_of_not_mem (p := .hl) hr hm _)
  | lhld _ => cases h; exact s.readReg_writePair_of_not_mem (p := .hl) hr hm _
  | xthl =>
    cases h
    exact (State.readReg_writePair_of_not_mem _ (p := .hl) hr hm _).trans (State.readReg_eq_of_registers hm (by simp))
  | xchg =>
    cases h
    have hdests : regDests .xchg = pairRegs .de ++ pairRegs .hl := rfl
    rw [hdests, List.mem_append, not_or] at hr
    obtain ⟨hde, hhl⟩ := hr
    exact (State.readReg_writePair_of_not_mem _ hde hm _).trans (s.readReg_writePair_of_not_mem hhl hm _)
  | pop q =>
    cases h
    exact (State.readReg_writeStackPair_of_not_mem _ hr hm _).trans (State.readReg_eq_of_registers hm (by simp))
  | _ => cases h; exact State.readReg_eq_of_registers hm (by simp)

/-- By cases on the instruction, grouped by the operation that stores; where none does, memory is the same list. -/
theorem exec_memRead {x : Word} (hx : x ∉ storeAddrs i s) : t.memRead x = s.memRead x := by
  cases i with
  | mov _ _ | mvi _ _ | inr _ | dcr _ => cases h; exact s.memRead_writeReg_of_not_mem hx _
  | sta _ | stax _ => cases h; exact s.memRead_memWrite_of_ne (List.ne_of_not_mem_cons hx) _
  | shld _ =>
    cases h
    exact (State.memRead_memWrite_of_ne _ (List.ne_of_not_mem_cons (List.not_mem_of_not_mem_cons hx)) _).trans
      (s.memRead_memWrite_of_ne (List.ne_of_not_mem_cons hx) _)
  | push _ | call _ | rst _ => cases h; exact s.memRead_pushWord_of_not_mem hx _
  | cnz _ | cz _ | cnc _ | cc _ | cpo _ | cpe _ | cp _ | cm _ => cases h; exact s.memRead_callIf_of_not_mem hx _
  | xthl => cases h; exact s.popWord.2.memRead_pushWord_of_not_mem hx s.hl
  | _ => cases h; exact State.memRead_congr (by simp) x

end

/-! ### The statements -/

/-- Settles O53: the destinations are the registers that the instruction's operation writes. -/
theorem onlyDestinationRegistersChange : Obligations.OnlyDestinationRegistersChange :=
  fun _ _ _ h _ hm hr => exec_readReg h hm hr

/-- Settles O54: the addresses are those of the operation that stores, of the state after the pop for XTHL. -/
theorem onlyStoredBytesChange : Obligations.OnlyStoredBytesChange :=
  fun _ _ _ h _ hx => exec_memRead h hx

end Sys2Proof.Machine
end

section
/-! PROOFS. The flags over all instructions: which write F, that AuxCarry follows Carry, and that none but DAA and PUSH PSW reads
AuxCarry (10_state.md R27, R29, R32). -/

namespace Sys2Proof.Machine

/-! ### What an instruction makes of F -/

/-- `g` is `f`, or what `SetCY` makes of it, or `SetZSP` and then `SetCY`: what an instruction other than DAA and POP PSW makes of
F (10_state.md R28 to R31). -/
inductive FlagWrite (f : Byte) : Byte → Prop where
  | kept : FlagWrite f f
  | setCY (c : Bool) : FlagWrite f (setCY f c)
  | setZSP (t : Int) (c : Bool) : FlagWrite f (Machine.setCY (Machine.setZSP f t) c)

theorem State.flagWrite_forceCarry {s t : State} (ht : t.f = s.f) (c : Bool) : FlagWrite s.f (t.forceCarry c).f := by
  rw [← ht]
  cases c with
  | false => exact .kept
  | true => exact .setCY (f := t.f) true

/-- None of them touches the storage bits (10_state.md R27). -/
theorem FlagWrite.storage {f g : Byte} (h : FlagWrite f g) {k : Nat} (hk : k = 1 ∨ k = 3 ∨ k = 4) :
    g.getLsbD k = f.getLsbD k := by
  cases h with
  | kept => rfl
  | setCY c => rw [getLsbD_setCY, if_neg (by omega)]
  | setZSP t c => exact ((resultFlags_setZSP f t).setCY c).storage k hk

/-- `SetCY` writes Carry and AuxCarry alike (10_state.md R29). -/
theorem FlagWrite.auxCarry {f g : Byte} (h : FlagWrite f g) :
    flagC g = flagC f ∧ flagAC g = flagAC f ∨ flagAC g = flagC g := by
  cases h with
  | kept => exact .inl ⟨rfl, rfl⟩
  | setCY c | setZSP t c => exact .inr (by rw [flagAC_setCY, flagC_setCY])

section
variable {i : Instr} {s t : State} (h : exec i s = .next t)
include h

/-- By cases on the instruction, the listed ones and POP PSW apart. -/
theorem exec_f (hw : writesFlags i = false) : t.f = s.f := by
  cases i with
  | pop q =>
    cases h
    cases q with
    | psw => cases hw
    | bc | de | hl => rfl
  | _ => cases hw <;> cases h <;> simp

/-- By cases on the instruction: those that write F do so by `SetZSP` and `SetCY`, of which `updateFlagsAdd` and `updateFlagsSub` are
made, or by `SetCY` alone. -/
theorem exec_flagWrite (hdaa : i ≠ .daa) (hpop : i ≠ .pop .psw) : FlagWrite s.f t.f := by
  cases i with
  | daa => exact absurd rfl hdaa
  | ana _ | ani _ | xra _ | xri _ | ora _ | ori _ | add _ | adi _ | adc _ | aci _ | sub _ | sui _ | sbb _ | sbi _ | cmp _ | cpi _
  | inr _ | dcr _ => cases h; exact .setZSP _ _
  | dad _ | rlc | rrc | ral | rar => cases h; exact .setCY _
  | stc => cases h; exact .setCY (f := s.f) true
  | cmc => cases h; exact .setCY (f := s.f) (!flagC s.f)
  | inx p | dcx p =>
    cases h
    exact State.flagWrite_forceCarry (s.writePair_f p _) _
  | pop q =>
    have hq : writesFlags (.pop q) = false := decide_eq_false fun hq => hpop (congrArg Instr.pop hq)
    exact exec_f h hq ▸ .kept
  | _ => exact exec_f h rfl ▸ .kept

end

/-! ### States that differ in AuxCarry only -/

/-- `g` agrees with `f` but for AuxCarry, bit 2. -/
def SameButAux (f g : Byte) : Prop := ∀ k, k ≠ 2 → g.getLsbD k = f.getLsbD k

namespace SameButAux

variable {f g : Byte} (h : SameButAux f g)
include h

theorem flagC_eq : flagC g = flagC f := h 0 (by decide)

theorem carryIn_eq : carryIn g = carryIn f := by rw [carryIn, h.flagC_eq, carryIn]

/-- No condition reads AuxCarry (47_branch.md R180). -/
theorem condHolds_eq (cond : Cond) : condHolds g cond = condHolds f cond := by
  have hP : flagP g = flagP f := h 5 (by decide)
  have hZ : flagZ g = flagZ f := h 6 (by decide)
  have hS : flagS g = flagS f := h 7 (by decide)
  cases cond <;> simp only [condHolds, h.flagC_eq, hP, hZ, hS]

theorem setCY (c : Bool) : SameButAux (setCY f c) (setCY g c) := by
  intro k hk
  rw [getLsbD_setCY, getLsbD_setCY, h k hk]

theorem setZSP (t : Int) : SameButAux (setZSP f t) (setZSP g t) := by
  intro k hk
  rw [getLsbD_setZSP, getLsbD_setZSP, h k hk]

theorem updateFlagsAdd (t : Int) : SameButAux (updateFlagsAdd f t) (updateFlagsAdd g t) := (h.setZSP t).setCY _

theorem updateFlagsSub (t : Int) : SameButAux (updateFlagsSub f t) (updateFlagsSub g t) := (h.setZSP t).setCY _

end SameButAux

namespace State

variable (s : State) (g : Byte)

/-! ### Operations that do not read F -/

theorem readPair_withF (p : Pair) : (s.withF g).readPair p = s.readPair p := by
  cases p <;> rfl

theorem readStackPair_withF {q : StackPair} (hq : q ≠ .psw) : (s.withF g).readStackPair q = s.readStackPair q := by
  cases q with
  | psw => exact absurd rfl hq
  | bc | de | hl => rfl

theorem writeReg_withF (r : Reg8) (v : Byte) : (s.withF g).writeReg r v = (s.writeReg r v).withF g := by
  cases r <;> rfl

theorem setPointer_withF (v : Word) : (s.withF g).setPointer v = (s.setPointer v).withF g := by
  cases hc : s.config.stackPolicy <;> simp [setPointer, withF, hc]

theorem writePair_withF (p : Pair) (v : Word) : (s.withF g).writePair p v = (s.writePair p v).withF g := by
  cases p with
  | sp => exact s.setPointer_withF g v
  | bc | de | hl => rfl

theorem portWrite_withF (port v : Byte) : (s.withF g).portWrite port v = (s.portWrite port v).withF g := by
  unfold portWrite
  split
  · rfl
  · split <;> rfl

/-! ### Operations that read a condition or write a flag -/

variable {s g} (hg : SameButAux s.f g)
include hg

theorem jumpIf_withF (cond : Cond) (x : Word) : (s.withF g).jumpIf cond x = (s.jumpIf cond x).withF g := by
  rw [jumpIf_eq, jumpIf_eq, withF_f, hg.condHolds_eq]
  split <;> rfl

theorem callIf_withF (cond : Cond) (x : Word) : (s.withF g).callIf cond x = (s.callIf cond x).withF g := by
  rw [callIf_eq, callIf_eq, withF_f, hg.condHolds_eq]
  split <;> rfl

theorem returnIf_withF (cond : Cond) : (s.withF g).returnIf cond = (s.returnIf cond).withF g := by
  rw [returnIf_eq, returnIf_eq, withF_f, hg.condHolds_eq]
  split <;> rfl

/-- INX and DCX force Carry after the pair is written. -/
theorem exists_forceCarry_withF (p : Pair) (v : Word) (c : Bool) :
    ∃ g', ((s.withF g).writePair p v).forceCarry c = ((s.writePair p v).forceCarry c).withF g' ∧
      SameButAux ((s.writePair p v).forceCarry c).f g' := by
  have hpair : SameButAux (s.writePair p v).f g := by rwa [writePair_f]
  rw [writePair_withF]
  cases c with
  | false => exact ⟨g, rfl, hpair⟩
  | true => exact ⟨setCY g true, rfl, hpair.setCY true⟩

end State

/-- `exec i` takes `s` to `t`, and from `s` with flag byte `g` to `t` with a flag byte that agrees with that of `t` but for
AuxCarry. -/
def SameExecButAux (i : Instr) (s t : State) (g : Byte) : Prop :=
  ∃ g', exec i (s.withF g) = .next (t.withF g') ∧ SameButAux t.f g'

section
variable {i : Instr} {s t : State} {g : Byte} (hg : SameButAux s.f g)
include hg

/-- An instruction that leaves F does the same whatever F is. -/
theorem sameExecButAux_of_f_eq (hexec : exec i (s.withF g) = .next (t.withF g)) (hf : t.f = s.f) : SameExecButAux i s t g :=
  ⟨g, hexec, hf ▸ hg⟩

/-- By cases on the instruction, grouped by what the operation reads and writes of F: it goes by Carry or a condition, or by no
flag, and what it writes is written alike into both flag bytes. -/
theorem sameExecButAux_of_exec (h : exec i s = .next t) (hdaa : i ≠ .daa) (hpush : i ≠ .push .psw) :
    SameExecButAux i s t g := by
  cases i with
  | daa => exact absurd rfl hdaa
  | ana r | xra r | ora r | add r =>
    cases h
    simp only [SameExecButAux, exec_ana, exec_xra, exec_ora, exec_add, State.readReg_withF]
    exact ⟨_, rfl, hg.updateFlagsAdd _⟩
  | ani _ | xri _ | ori _ | adi _ => cases h; exact ⟨_, rfl, hg.updateFlagsAdd _⟩
  | adc r | aci _ =>
    cases h
    simp only [SameExecButAux, exec_adc, exec_aci, State.readReg_withF, State.withF_f, hg.carryIn_eq]
    exact ⟨_, rfl, hg.updateFlagsAdd _⟩
  | sub r | cmp r =>
    cases h
    simp only [SameExecButAux, exec_sub, exec_cmp, State.readReg_withF]
    exact ⟨_, rfl, hg.updateFlagsSub _⟩
  | sui _ | cpi _ => cases h; exact ⟨_, rfl, hg.updateFlagsSub _⟩
  | sbb r | sbi _ =>
    cases h
    simp only [SameExecButAux, exec_sbb, exec_sbi, State.readReg_withF, State.withF_f, hg.carryIn_eq]
    exact ⟨_, rfl, hg.updateFlagsSub _⟩
  | inr r | dcr r =>
    cases h
    simp only [SameExecButAux, exec_inr, exec_dcr, State.readReg_withF, State.countByte_eq, State.writeReg_withF]
    exact ⟨_, rfl, (hg.setZSP _).setCY _⟩
  | inx p | dcx p =>
    cases h
    simp only [SameExecButAux, exec_inx, exec_dcx, State.readPair_withF, Host.Outcome.next.injEq]
    exact State.exists_forceCarry_withF hg p _ _
  | dad p =>
    cases h
    simp only [SameExecButAux, exec_dad, State.readPair_withF]
    exact ⟨_, rfl, hg.setCY _⟩
  | rlc | rrc | stc => cases h; exact ⟨_, rfl, hg.setCY _⟩
  | ral | rar | cmc =>
    cases h
    simp only [SameExecButAux, exec_ral, exec_rar, exec_cmc, State.withF_f, hg.flagC_eq]
    exact ⟨_, rfl, hg.setCY _⟩
  | mov dst src =>
    cases h
    refine sameExecButAux_of_f_eq hg ?_ (s.writeReg_f dst _)
    rw [exec_mov, State.readReg_withF, State.writeReg_withF]
  | mvi r v => cases h; exact sameExecButAux_of_f_eq hg (congrArg _ (s.writeReg_withF g r v)) (s.writeReg_f r v)
  | lxi p v => cases h; exact sameExecButAux_of_f_eq hg (congrArg _ (s.writePair_withF g p v)) (s.writePair_f p v)
  | sphl => cases h; exact sameExecButAux_of_f_eq hg (congrArg _ (s.setPointer_withF g s.hl)) (s.setPointer_f s.hl)
  | outPort port => cases h; exact sameExecButAux_of_f_eq hg (congrArg _ (s.portWrite_withF g port s.a)) (s.portWrite_f port s.a)
  | stax p | ldax p => cases h; cases p <;> exact sameExecButAux_of_f_eq hg rfl rfl
  | push q =>
    cases h
    refine sameExecButAux_of_f_eq hg ?_ rfl
    rw [exec_push, State.readStackPair_withF _ _ fun hq => hpush (congrArg Instr.push hq)]
    rfl
  | pop q =>
    cases h
    cases q with
    | psw => exact ⟨_, rfl, fun _ _ => rfl⟩
    | bc | de | hl => exact sameExecButAux_of_f_eq hg rfl rfl
  | jnz x | jz x | jnc x | jc x | jpo x | jpe x | jp x | jm x =>
    cases h
    exact sameExecButAux_of_f_eq hg (congrArg _ (State.jumpIf_withF hg _ x)) (s.jumpIf_f _ x)
  | cnz x | cz x | cnc x | cc x | cpo x | cpe x | cp x | cm x =>
    cases h
    exact sameExecButAux_of_f_eq hg (congrArg _ (State.callIf_withF hg _ x)) (s.callIf_f _ x)
  | rnz | rz | rnc | rc | rpo | rpe | rp | rm =>
    cases h
    exact sameExecButAux_of_f_eq hg (congrArg _ (State.returnIf_withF hg _)) (s.returnIf_f _)
  | _ => cases h; exact sameExecButAux_of_f_eq hg rfl rfl

end

/-! ### The statements -/

/-- Settles O55: the storage bits are kept by every way of writing F but POP PSW's, and DAA's keeps them too. -/
theorem onlyFlagInstructionsWriteF : Obligations.OnlyFlagInstructionsWriteF := by
  intro i s t h
  refine ⟨exec_f h, fun hpop k hk => ?_⟩
  by_cases hdaa : i = .daa
  · obtain ⟨u, hu, -, -, hflags⟩ := daaAdjustsA s
    rw [hdaa, hu] at h
    cases h
    exact hflags.storage k hk
  · exact (exec_flagWrite h hdaa hpop).storage hk

/-- Settles O56: such an instruction keeps F or ends with `SetCY`. -/
theorem auxCarryFollowsCarry : Obligations.AuxCarryFollowsCarry :=
  fun _ _ _ h hdaa hpop => (exec_flagWrite h hdaa hpop).auxCarry

/-- Settles O60: the state it answers is that of the other flag byte up to F, and the two agree but for AuxCarry. -/
theorem onlyDaaAndPushPswReadAuxCarry : Obligations.OnlyDaaAndPushPswReadAuxCarry := by
  intro i s t g h hdaa hpush hg
  obtain ⟨g', hexec, hsame⟩ := sameExecButAux_of_exec hg h hdaa hpush
  exact ⟨_, hexec, rfl, hsame⟩

end Sys2Proof.Machine
end
